-- ==== Sys2Proof/Word.lean ====
section
/-! DEFINITION. The two widths of the hardware: a byte and the source's "short", a 16-bit value (00_scope.md R7). -/

namespace Sys2Proof

/-- A byte: 8 bits (00_scope.md R7). -/
abbrev Byte := BitVec 8

/-- A short, an address, `pc` or `sp`: 16 bits (00_scope.md R6, R7). -/
abbrev Word := BitVec 16

end Sys2Proof
end

