-- ==== Sys2Proof/Config.lean ====
section
/-! DEFINITION. The parameters of the block as one record (00_scope.md R6). The record's value for this
hardware is `Sys2Proof.kaoboy` in Machine/Parameters.lean; the opcode map, R6's last parameter, is
`Sys2Proof.opcodeMap` in Decode.lean. There is no free value: the spec leaves no result open
(93_implementation_defined.md, last paragraph of Part 1). -/

namespace Sys2Proof

/-- The order of the two bytes of a 16-bit value (00_scope.md R6 `SHORT_ORDER`, 20_memory.md R54). -/
inductive ShortOrder where
  /-- The byte at the lower address, fetched and written first, is bits 15:8. -/
  | highFirst
  /-- The byte at the lower address is bits 7:0 (not this hardware). -/
  | lowFirst
  deriving DecidableEq, Repr

/-- What a rotate does with the zero flag (42_bit_rotate.md R146). -/
inductive ZMode where
  /-- The zero flag is cleared. -/
  | zClear
  /-- The zero flag tells whether the result is 0. -/
  | zResult
  deriving DecidableEq, Repr

/-- The zero-flag policy of the four rotate forms (92_eei_decisions.md D11, `ROT_Z`). -/
structure RotateZ where
  rlca : ZMode
  rla : ZMode
  rlc : ZMode
  rl : ZMode
  deriving DecidableEq, Repr

/-- The values the CPU registers take at Reset where the source gives none: the OPEN parameters
`RESET_REGS` and `RESET_SP` (00_scope.md R6, 10_state.md R45). -/
structure ResetValues where
  a : Byte
  b : Byte
  c : Byte
  d : Byte
  e : Byte
  f : Byte
  h : Byte
  l : Byte
  sp : Word
  deriving DecidableEq, Repr

/-- The parameters of the block (00_scope.md R6). -/
structure Config where
  /-- `SHORT_ORDER`. -/
  shortOrder : ShortOrder
  /-- `PREFIX`, the byte that redirects decoding to the extended table. -/
  prefixByte : Byte
  /-- `IO_BASE`, the base of the fast page. -/
  ioBase : Word
  /-- `MEM_SIZE` in bytes. -/
  memSize : Nat
  /-- `MEM_RESET`, what every byte of memory holds after Reset. -/
  memReset : Byte
  /-- `FLAG_Z`, the mask of the zero flag in F. -/
  flagZ : Byte
  /-- `FLAG_N`, the mask of the subtract flag in F. -/
  flagN : Byte
  /-- `FLAG_H`, the mask of the half-carry flag in F. -/
  flagH : Byte
  /-- `FLAG_C`, the mask of the carry flag in F. -/
  flagC : Byte
  /-- `BUDGET_OAM`, cycles. -/
  budgetOam : Nat
  /-- `BUDGET_TRANSFER`, cycles. -/
  budgetTransfer : Nat
  /-- `BUDGET_HBLANK`, cycles. -/
  budgetHBlank : Nat
  /-- `BUDGET_VBLANK_LINE`, cycles per line. -/
  budgetVBlankLine : Nat
  /-- `VISIBLE_LINES`. -/
  visibleLines : Nat
  /-- `TOTAL_LINES`. -/
  totalLines : Nat
  /-- `RESET_PC`. -/
  resetPc : Word
  /-- `RESET_REGS` and `RESET_SP`. -/
  resetValues : ResetValues
  /-- `ROT_Z`. -/
  rotateZ : RotateZ
  deriving DecidableEq, Repr

end Sys2Proof
end

