-- ==== Sys2Proof/Machine/Bits.lean ====
section
/-! DEFINITION. The bit-field, extension and byte-order helpers of 00_scope.md R7. -/

namespace Sys2Proof

/-- `v[15:8]` (00_scope.md R7). -/
def hiByte (v : Word) : Byte := v.extractLsb' 8 8

/-- `v[7:0]` (00_scope.md R7). -/
def loByte (v : Word) : Byte := v.extractLsb' 0 8

/-- `hi ++ lo` for bytes, `hi * 256 + lo` (00_scope.md R7). -/
def joinBytes (hi lo : Byte) : Word := hi ++ lo

/-- `zext_16(b)` (00_scope.md R7). -/
def zext16 (b : Byte) : Word := b.zeroExtend 16

/-- `sext_16(b)` (00_scope.md R7). -/
def sext16 (b : Byte) : Word := b.signExtend 16

/-- The short whose byte at the lower address is `first` and whose byte at the next address is
`second` (20_memory.md R52, R57). -/
def joinShort (order : ShortOrder) (first second : Byte) : Word :=
  match order with
  | .highFirst => joinBytes first second
  | .lowFirst => joinBytes second first

/-- The byte of a short that stands at the lower address (20_memory.md R53). -/
def firstByte (order : ShortOrder) (v : Word) : Byte :=
  match order with
  | .highFirst => hiByte v
  | .lowFirst => loByte v

/-- The byte of a short that stands at the next address (20_memory.md R53). -/
def secondByte (order : ShortOrder) (v : Word) : Byte :=
  match order with
  | .highFirst => loByte v
  | .lowFirst => hiByte v

end Sys2Proof
end

