-- ==== Sys2Proof/Machine/Parameters.lean ====
section
/-! DEFINITION. The value this hardware gives each parameter of 00_scope.md R6. -/

namespace Sys2Proof

/-- The KaoBoy core (00_scope.md R6, value column; 92_eei_decisions.md D1, D5, D11, D15).

DESIGN CHOICE, unsafe (log 1, log 2): `resetValues` is zero everywhere. The spec leaves `RESET_REGS`
and `RESET_SP` OPEN; `Machine.State.resetWith` takes any other values. -/
def kaoboy : Config where
  shortOrder := .highFirst
  prefixByte := 0xCB
  ioBase := 0xFF00
  memSize := 65536
  memReset := 0x00
  flagZ := 0x80
  flagN := 0x40
  flagH := 0x20
  flagC := 0x10
  budgetOam := 80
  budgetTransfer := 170
  budgetHBlank := 206
  budgetVBlankLine := 456
  visibleLines := 144
  totalLines := 154
  resetPc := 0x0000
  resetValues := { a := 0, b := 0, c := 0, d := 0, e := 0, f := 0, h := 0, l := 0, sp := 0 }
  rotateZ := { rlca := .zClear, rla := .zClear, rlc := .zResult, rl := .zResult }

end Sys2Proof
end

