-- ==== Sys2Proof/Syntax.lean ====
section
/-! DEFINITION. The instruction set as syntax: the names operands go by (10_state.md, 30_encoding.md
R86 to R91), one constructor of `Instr` per row of opcode_table.json, in the table's order, and the
numbered instruction rules as `Form`, which name the same instructions by their operands. -/

namespace Sys2Proof

/-- The eight byte registers (10_state.md R20). -/
inductive ByteReg where
  | a | b | c | d | e | f | h | l
  deriving DecidableEq, Repr

/-- The registers an 8-bit operand field can name (30_encoding.md R87): all but F, which has no code. -/
inductive OpReg where
  | b | c | d | e | h | l | a
  deriving DecidableEq, Repr

/-- The byte register an operand code stands for (30_encoding.md R87). -/
def OpReg.byteReg : OpReg → ByteReg
  | .b => .b
  | .c => .c
  | .d => .d
  | .e => .e
  | .h => .h
  | .l => .l
  | .a => .a

/-- The 3-bit code of an operand register (30_encoding.md R87); code 6 is `(HL)`, not a register. -/
def OpReg.code : OpReg → Byte
  | .b => 0
  | .c => 1
  | .d => 2
  | .e => 3
  | .h => 4
  | .l => 5
  | .a => 7

/-- The four double registers (10_state.md R22). -/
inductive Pair where
  | af | bc | de | hl
  deriving DecidableEq, Repr

/-- The pairs of LD rr,d16, INC rr, DEC rr and POP rr (30_encoding.md R88, 45_stack.md R217). -/
inductive OpPair where
  | bc | de | hl
  deriving DecidableEq, Repr

/-- The double register an operand pair stands for (30_encoding.md R88). -/
def OpPair.pair : OpPair → Pair
  | .bc => .bc
  | .de => .de
  | .hl => .hl

/-- The 2-bit code of an operand pair (30_encoding.md R88, R89); code 3 is SP, or AF in PUSH and POP. -/
def OpPair.code : OpPair → Byte
  | .bc => 0
  | .de => 1
  | .hl => 2

/-- The 2-bit code of the pair of PUSH (30_encoding.md R89). -/
def Pair.stackCode : Pair → Byte
  | .bc => 0
  | .de => 1
  | .hl => 2
  | .af => 3

/-- The conditions of JR cc, CALL cc and RET cc (30_encoding.md R90). The always-true condition belongs
to the unconditional forms, which have opcodes of their own. -/
inductive Cond where
  | nz | z | nc | c
  deriving DecidableEq, Repr

/-- The 2-bit code of a condition (30_encoding.md R90). -/
def Cond.code : Cond → Byte
  | .nz => 0
  | .z => 1
  | .nc => 2
  | .c => 3

/-- The two opcode tables (30_encoding.md R81). -/
inductive OpTable where
  | standard | extended
  deriving DecidableEq, Repr

/-- The five instruction formats (30_encoding.md R82). -/
inductive Format where
  | op | opD8 | opR8 | opD16 | cbOp
  deriving DecidableEq, Repr

/-- The length of a format in bytes, the prefix included (30_encoding.md R82). -/
def Format.length : Format → Nat
  | .op => 1
  | .opD8 => 2
  | .opR8 => 2
  | .opD16 => 3
  | .cbOp => 2

/-- The instructions: one constructor per row of opcode_table.json, in its order. The docstring of each
gives the spec's mnemonic and the numbered rule that defines it. An argument is the instruction's
immediate. -/
inductive Instr where
  /-- LD BC,d16 (R202). -/
  | ldBcD16 (d16 : Word)
  /-- LD (BC),A (R188). -/
  | ldMemBcA
  /-- INC BC (R136). -/
  | incBc
  /-- INC B (R132). -/
  | incB
  /-- DEC B (R134). -/
  | decB
  /-- LD B,d8 (R184). -/
  | ldBD8 (d8 : Byte)
  /-- RLCA (R148). -/
  | rlca
  /-- LD A,(BC) (R186). -/
  | ldAMemBc
  /-- DEC BC (R137). -/
  | decBc
  /-- INC C (R132). -/
  | incC
  /-- DEC C (R134). -/
  | decC
  /-- LD C,d8 (R184). -/
  | ldCD8 (d8 : Byte)
  /-- LD DE,d16 (R202). -/
  | ldDeD16 (d16 : Word)
  /-- LD (DE),A (R189). -/
  | ldMemDeA
  /-- INC DE (R136). -/
  | incDe
  /-- INC D (R132). -/
  | incD
  /-- DEC D (R134). -/
  | decD
  /-- LD D,d8 (R184). -/
  | ldDD8 (d8 : Byte)
  /-- RLA (R149). -/
  | rla
  /-- JR r8 (R166). -/
  | jrR8 (r8 : Byte)
  /-- LD A,(DE) (R187). -/
  | ldAMemDe
  /-- DEC DE (R137). -/
  | decDe
  /-- INC E (R132). -/
  | incE
  /-- DEC E (R134). -/
  | decE
  /-- LD E,d8 (R184). -/
  | ldED8 (d8 : Byte)
  /-- JR NZ,r8 (R167). -/
  | jrNzR8 (r8 : Byte)
  /-- LD HL,d16 (R202). -/
  | ldHlD16 (d16 : Word)
  /-- LD (HL+),A (R190). -/
  | ldMemHlIncA
  /-- INC HL (R136). -/
  | incHl
  /-- INC H (R132). -/
  | incH
  /-- DEC H (R134). -/
  | decH
  /-- LD H,d8 (R184). -/
  | ldHD8 (d8 : Byte)
  /-- JR Z,r8 (R167). -/
  | jrZR8 (r8 : Byte)
  /-- LD A,(HL+) (R192). -/
  | ldAMemHlInc
  /-- DEC HL (R137). -/
  | decHl
  /-- INC L (R132). -/
  | incL
  /-- DEC L (R134). -/
  | decL
  /-- LD L,d8 (R184). -/
  | ldLD8 (d8 : Byte)
  /-- JR NC,r8 (R167). -/
  | jrNcR8 (r8 : Byte)
  /-- LD SP,d16 (R200). -/
  | ldSpD16 (d16 : Word)
  /-- LD (HL-),A (R191). -/
  | ldMemHlDecA
  /-- INC SP (R138). -/
  | incSp
  /-- INC (HL) (R133). -/
  | incMemHl
  /-- DEC (HL) (R135). -/
  | decMemHl
  /-- LD (HL),d8 (R185). -/
  | ldMemHlD8 (d8 : Byte)
  /-- JR C,r8 (R167). -/
  | jrCR8 (r8 : Byte)
  /-- LD A,(HL-) (R193). -/
  | ldAMemHlDec
  /-- DEC SP (R139). -/
  | decSp
  /-- INC A (R132). -/
  | incA
  /-- DEC A (R134). -/
  | decA
  /-- LD A,d8 (R184). -/
  | ldAD8 (d8 : Byte)
  /-- LD B,B (R181). -/
  | ldBB
  /-- LD B,C (R181). -/
  | ldBC
  /-- LD B,D (R181). -/
  | ldBD
  /-- LD B,E (R181). -/
  | ldBE
  /-- LD B,H (R181). -/
  | ldBH
  /-- LD B,L (R181). -/
  | ldBL
  /-- LD B,(HL) (R182). -/
  | ldBMemHl
  /-- LD B,A (R181). -/
  | ldBA
  /-- LD C,B (R181). -/
  | ldCB
  /-- LD C,C (R181). -/
  | ldCC
  /-- LD C,D (R181). -/
  | ldCD
  /-- LD C,E (R181). -/
  | ldCE
  /-- LD C,H (R181). -/
  | ldCH
  /-- LD C,L (R181). -/
  | ldCL
  /-- LD C,(HL) (R182). -/
  | ldCMemHl
  /-- LD C,A (R181). -/
  | ldCA
  /-- LD D,B (R181). -/
  | ldDB
  /-- LD D,C (R181). -/
  | ldDC
  /-- LD D,D (R181). -/
  | ldDD
  /-- LD D,E (R181). -/
  | ldDE
  /-- LD D,H (R181). -/
  | ldDH
  /-- LD D,L (R181). -/
  | ldDL
  /-- LD D,(HL) (R182). -/
  | ldDMemHl
  /-- LD D,A (R181). -/
  | ldDA
  /-- LD E,B (R181). -/
  | ldEB
  /-- LD E,C (R181). -/
  | ldEC
  /-- LD E,D (R181). -/
  | ldED
  /-- LD E,E (R181). -/
  | ldEE
  /-- LD E,H (R181). -/
  | ldEH
  /-- LD E,L (R181). -/
  | ldEL
  /-- LD E,(HL) (R182). -/
  | ldEMemHl
  /-- LD E,A (R181). -/
  | ldEA
  /-- LD H,B (R181). -/
  | ldHB
  /-- LD H,C (R181). -/
  | ldHC
  /-- LD H,D (R181). -/
  | ldHD
  /-- LD H,E (R181). -/
  | ldHE
  /-- LD H,H (R181). -/
  | ldHH
  /-- LD H,L (R181). -/
  | ldHL
  /-- LD H,(HL) (R182). -/
  | ldHMemHl
  /-- LD H,A (R181). -/
  | ldHA
  /-- LD L,B (R181). -/
  | ldLB
  /-- LD L,C (R181). -/
  | ldLC
  /-- LD L,D (R181). -/
  | ldLD
  /-- LD L,E (R181). -/
  | ldLE
  /-- LD L,H (R181). -/
  | ldLH
  /-- LD L,L (R181). -/
  | ldLL
  /-- LD L,(HL) (R182). -/
  | ldLMemHl
  /-- LD L,A (R181). -/
  | ldLA
  /-- LD (HL),B (R183). -/
  | ldMemHlB
  /-- LD (HL),C (R183). -/
  | ldMemHlC
  /-- LD (HL),D (R183). -/
  | ldMemHlD
  /-- LD (HL),E (R183). -/
  | ldMemHlE
  /-- LD (HL),H (R183). -/
  | ldMemHlH
  /-- LD (HL),L (R183). -/
  | ldMemHlL
  /-- LD (HL),A (R183). -/
  | ldMemHlA
  /-- LD A,B (R181). -/
  | ldAB
  /-- LD A,C (R181). -/
  | ldAC
  /-- LD A,D (R181). -/
  | ldAD
  /-- LD A,E (R181). -/
  | ldAE
  /-- LD A,H (R181). -/
  | ldAH
  /-- LD A,L (R181). -/
  | ldAL
  /-- LD A,(HL) (R182). -/
  | ldAMemHl
  /-- LD A,A (R181). -/
  | ldAA
  /-- ADD A,B (R115). -/
  | addAB
  /-- ADD A,C (R115). -/
  | addAC
  /-- ADD A,D (R115). -/
  | addAD
  /-- ADD A,E (R115). -/
  | addAE
  /-- ADD A,H (R115). -/
  | addAH
  /-- ADD A,L (R115). -/
  | addAL
  /-- ADD A,(HL) (R116). -/
  | addAMemHl
  /-- ADD A,A (R115). -/
  | addAA
  /-- SUB B (R118). -/
  | subB
  /-- SUB C (R118). -/
  | subC
  /-- SUB D (R118). -/
  | subD
  /-- SUB E (R118). -/
  | subE
  /-- SUB H (R118). -/
  | subH
  /-- SUB L (R118). -/
  | subL
  /-- SUB (HL) (R119). -/
  | subMemHl
  /-- SUB A (R118). -/
  | subA
  /-- XOR B (R121). -/
  | xorB
  /-- XOR C (R121). -/
  | xorC
  /-- XOR D (R121). -/
  | xorD
  /-- XOR E (R121). -/
  | xorE
  /-- XOR H (R121). -/
  | xorH
  /-- XOR L (R121). -/
  | xorL
  /-- XOR (HL) (R122). -/
  | xorMemHl
  /-- XOR A (R121). -/
  | xorA
  /-- CP B (R124). -/
  | cpB
  /-- CP C (R124). -/
  | cpC
  /-- CP D (R124). -/
  | cpD
  /-- CP E (R124). -/
  | cpE
  /-- CP H (R124). -/
  | cpH
  /-- CP L (R124). -/
  | cpL
  /-- CP (HL) (R125). -/
  | cpMemHl
  /-- CP A (R124). -/
  | cpA
  /-- RET NZ (R171). -/
  | retNz
  /-- POP BC (R217). -/
  | popBc
  /-- CALL NZ,a16 (R169). -/
  | callNzA16 (a16 : Word)
  /-- PUSH BC (R215). -/
  | pushBc
  /-- ADD A,d8 (R117). -/
  | addAD8 (d8 : Byte)
  /-- RET Z (R171). -/
  | retZ
  /-- RET (R170). -/
  | ret
  /-- CALL Z,a16 (R169). -/
  | callZA16 (a16 : Word)
  /-- CALL a16 (R168). -/
  | callA16 (a16 : Word)
  /-- RET NC (R171). -/
  | retNc
  /-- POP DE (R217). -/
  | popDe
  /-- CALL NC,a16 (R169). -/
  | callNcA16 (a16 : Word)
  /-- PUSH DE (R215). -/
  | pushDe
  /-- SUB d8 (R120). -/
  | subD8 (d8 : Byte)
  /-- RET C (R171). -/
  | retC
  /-- CALL C,a16 (R169). -/
  | callCA16 (a16 : Word)
  /-- LDH (a8),A (R194). -/
  | ldhMemA8A (a8 : Byte)
  /-- POP HL (R217). -/
  | popHl
  /-- LD (C),A (R196). -/
  | ldMemCA
  /-- PUSH HL (R215). -/
  | pushHl
  /-- LD (a16),A (R198). -/
  | ldMemA16A (a16 : Word)
  /-- XOR d8 (R123). -/
  | xorD8 (d8 : Byte)
  /-- LDH A,(a8) (R195). -/
  | ldhAMemA8 (a8 : Byte)
  /-- POP AF (R216). -/
  | popAf
  /-- LD A,(C) (R197). -/
  | ldAMemC
  /-- PUSH AF (R215). -/
  | pushAf
  /-- LD SP,HL (R201). -/
  | ldSpHl
  /-- LD A,(a16) (R199). -/
  | ldAMemA16 (a16 : Word)
  /-- CP d8 (R126). -/
  | cpD8 (d8 : Byte)
  /-- RLC B (R150). -/
  | rlcB
  /-- RLC C (R150). -/
  | rlcC
  /-- RLC D (R150). -/
  | rlcD
  /-- RLC E (R150). -/
  | rlcE
  /-- RLC H (R150). -/
  | rlcH
  /-- RLC L (R150). -/
  | rlcL
  /-- RLC (HL) (R151). -/
  | rlcMemHl
  /-- RLC A (R150). -/
  | rlcA
  /-- RL B (R152). -/
  | rlB
  /-- RL C (R152). -/
  | rlC
  /-- RL D (R152). -/
  | rlD
  /-- RL E (R152). -/
  | rlE
  /-- RL H (R152). -/
  | rlH
  /-- RL L (R152). -/
  | rlL
  /-- RL (HL) (R153). -/
  | rlMemHl
  /-- RL A (R152). -/
  | rlA
  /-- BIT 0,B (R155). -/
  | bit0B
  /-- BIT 0,C (R155). -/
  | bit0C
  /-- BIT 0,D (R155). -/
  | bit0D
  /-- BIT 0,E (R155). -/
  | bit0E
  /-- BIT 0,H (R155). -/
  | bit0H
  /-- BIT 0,L (R155). -/
  | bit0L
  /-- BIT 0,(HL) (R156). -/
  | bit0MemHl
  /-- BIT 0,A (R155). -/
  | bit0A
  /-- BIT 1,B (R155). -/
  | bit1B
  /-- BIT 1,C (R155). -/
  | bit1C
  /-- BIT 1,D (R155). -/
  | bit1D
  /-- BIT 1,E (R155). -/
  | bit1E
  /-- BIT 1,H (R155). -/
  | bit1H
  /-- BIT 1,L (R155). -/
  | bit1L
  /-- BIT 1,(HL) (R156). -/
  | bit1MemHl
  /-- BIT 1,A (R155). -/
  | bit1A
  /-- BIT 2,B (R155). -/
  | bit2B
  /-- BIT 2,C (R155). -/
  | bit2C
  /-- BIT 2,D (R155). -/
  | bit2D
  /-- BIT 2,E (R155). -/
  | bit2E
  /-- BIT 2,H (R155). -/
  | bit2H
  /-- BIT 2,L (R155). -/
  | bit2L
  /-- BIT 2,(HL) (R156). -/
  | bit2MemHl
  /-- BIT 2,A (R155). -/
  | bit2A
  /-- BIT 3,B (R155). -/
  | bit3B
  /-- BIT 3,C (R155). -/
  | bit3C
  /-- BIT 3,D (R155). -/
  | bit3D
  /-- BIT 3,E (R155). -/
  | bit3E
  /-- BIT 3,H (R155). -/
  | bit3H
  /-- BIT 3,L (R155). -/
  | bit3L
  /-- BIT 3,(HL) (R156). -/
  | bit3MemHl
  /-- BIT 3,A (R155). -/
  | bit3A
  /-- BIT 4,B (R155). -/
  | bit4B
  /-- BIT 4,C (R155). -/
  | bit4C
  /-- BIT 4,D (R155). -/
  | bit4D
  /-- BIT 4,E (R155). -/
  | bit4E
  /-- BIT 4,H (R155). -/
  | bit4H
  /-- BIT 4,L (R155). -/
  | bit4L
  /-- BIT 4,(HL) (R156). -/
  | bit4MemHl
  /-- BIT 4,A (R155). -/
  | bit4A
  /-- BIT 5,B (R155). -/
  | bit5B
  /-- BIT 5,C (R155). -/
  | bit5C
  /-- BIT 5,D (R155). -/
  | bit5D
  /-- BIT 5,E (R155). -/
  | bit5E
  /-- BIT 5,H (R155). -/
  | bit5H
  /-- BIT 5,L (R155). -/
  | bit5L
  /-- BIT 5,(HL) (R156). -/
  | bit5MemHl
  /-- BIT 5,A (R155). -/
  | bit5A
  /-- BIT 6,B (R155). -/
  | bit6B
  /-- BIT 6,C (R155). -/
  | bit6C
  /-- BIT 6,D (R155). -/
  | bit6D
  /-- BIT 6,E (R155). -/
  | bit6E
  /-- BIT 6,H (R155). -/
  | bit6H
  /-- BIT 6,L (R155). -/
  | bit6L
  /-- BIT 6,(HL) (R156). -/
  | bit6MemHl
  /-- BIT 6,A (R155). -/
  | bit6A
  /-- BIT 7,B (R155). -/
  | bit7B
  /-- BIT 7,C (R155). -/
  | bit7C
  /-- BIT 7,D (R155). -/
  | bit7D
  /-- BIT 7,E (R155). -/
  | bit7E
  /-- BIT 7,H (R155). -/
  | bit7H
  /-- BIT 7,L (R155). -/
  | bit7L
  /-- BIT 7,(HL) (R156). -/
  | bit7MemHl
  /-- BIT 7,A (R155). -/
  | bit7A
  deriving DecidableEq, Repr

/-- The instruction rules of 40_arith_logic.md to 45_stack.md, one constructor per rule, with the rule's
operands. `Form.instr` gives the instruction of a form. -/
inductive Form where
  /-- ADD A,r (R115). -/
  | addReg (r : OpReg)
  /-- ADD A,(HL) (R116). -/
  | addHl
  /-- ADD A,d8 (R117). -/
  | addImm (d8 : Byte)
  /-- SUB r (R118). -/
  | subReg (r : OpReg)
  /-- SUB (HL) (R119). -/
  | subHl
  /-- SUB d8 (R120). -/
  | subImm (d8 : Byte)
  /-- XOR r (R121). -/
  | xorReg (r : OpReg)
  /-- XOR (HL) (R122). -/
  | xorHl
  /-- XOR d8 (R123). -/
  | xorImm (d8 : Byte)
  /-- CP r (R124). -/
  | cpReg (r : OpReg)
  /-- CP (HL) (R125). -/
  | cpHl
  /-- CP d8 (R126). -/
  | cpImm (d8 : Byte)
  /-- INC r (R132). -/
  | incReg (r : OpReg)
  /-- INC (HL) (R133). -/
  | incMem
  /-- DEC r (R134). -/
  | decReg (r : OpReg)
  /-- DEC (HL) (R135). -/
  | decMem
  /-- INC rr (R136). -/
  | incPair (p : OpPair)
  /-- DEC rr (R137). -/
  | decPair (p : OpPair)
  /-- INC SP (R138). -/
  | incSp
  /-- DEC SP (R139). -/
  | decSp
  /-- RLCA (R148). -/
  | rlca
  /-- RLA (R149). -/
  | rla
  /-- RLC r (R150). -/
  | rlcReg (r : OpReg)
  /-- RLC (HL) (R151). -/
  | rlcHl
  /-- RL r (R152). -/
  | rlReg (r : OpReg)
  /-- RL (HL) (R153). -/
  | rlHl
  /-- BIT b,r (R155). -/
  | bitReg (n : Fin 8) (r : OpReg)
  /-- BIT b,(HL) (R156). -/
  | bitHl (n : Fin 8)
  /-- JR r8 (R166). -/
  | jr (r8 : Byte)
  /-- JR cc,r8 (R167). -/
  | jrCond (cc : Cond) (r8 : Byte)
  /-- CALL a16 (R168). -/
  | call (a16 : Word)
  /-- CALL cc,a16 (R169). -/
  | callCond (cc : Cond) (a16 : Word)
  /-- RET (R170). -/
  | ret
  /-- RET cc (R171). -/
  | retCond (cc : Cond)
  /-- LD r,r' (R181). -/
  | ldReg (dst src : OpReg)
  /-- LD r,(HL) (R182). -/
  | ldRegHl (dst : OpReg)
  /-- LD (HL),r (R183). -/
  | ldHlReg (src : OpReg)
  /-- LD r,d8 (R184). -/
  | ldRegImm (dst : OpReg) (d8 : Byte)
  /-- LD (HL),d8 (R185). -/
  | ldHlImm (d8 : Byte)
  /-- LD A,(BC) (R186). -/
  | ldABc
  /-- LD A,(DE) (R187). -/
  | ldADe
  /-- LD (BC),A (R188). -/
  | ldBcA
  /-- LD (DE),A (R189). -/
  | ldDeA
  /-- LD (HL+),A (R190). -/
  | ldHlIncA
  /-- LD (HL-),A (R191). -/
  | ldHlDecA
  /-- LD A,(HL+) (R192). -/
  | ldAHlInc
  /-- LD A,(HL-) (R193). -/
  | ldAHlDec
  /-- LDH (a8),A (R194). -/
  | ldhStore (a8 : Byte)
  /-- LDH A,(a8) (R195). -/
  | ldhLoad (a8 : Byte)
  /-- LD (C),A (R196). -/
  | ldFastCA
  /-- LD A,(C) (R197). -/
  | ldAFastC
  /-- LD (a16),A (R198). -/
  | ldAbsA (a16 : Word)
  /-- LD A,(a16) (R199). -/
  | ldAAbs (a16 : Word)
  /-- LD rr,d16 (R202). -/
  | ldPairImm (p : OpPair) (d16 : Word)
  /-- LD SP,d16 (R200). -/
  | ldSpImm (d16 : Word)
  /-- LD SP,HL (R201). -/
  | ldSpHl
  /-- PUSH rr (R215). -/
  | push (p : Pair)
  /-- POP rr, BC DE HL (R217). -/
  | pop (p : OpPair)
  /-- POP AF (R216). -/
  | popAf
  deriving DecidableEq, Repr

/-- The instruction of a form: the rule's mnemonic with its operands filled in. -/
def Form.instr : Form → Instr
  | .addReg .b => .addAB
  | .addReg .c => .addAC
  | .addReg .d => .addAD
  | .addReg .e => .addAE
  | .addReg .h => .addAH
  | .addReg .l => .addAL
  | .addReg .a => .addAA
  | .addHl => .addAMemHl
  | .addImm d8 => .addAD8 d8
  | .subReg .b => .subB
  | .subReg .c => .subC
  | .subReg .d => .subD
  | .subReg .e => .subE
  | .subReg .h => .subH
  | .subReg .l => .subL
  | .subReg .a => .subA
  | .subHl => .subMemHl
  | .subImm d8 => .subD8 d8
  | .xorReg .b => .xorB
  | .xorReg .c => .xorC
  | .xorReg .d => .xorD
  | .xorReg .e => .xorE
  | .xorReg .h => .xorH
  | .xorReg .l => .xorL
  | .xorReg .a => .xorA
  | .xorHl => .xorMemHl
  | .xorImm d8 => .xorD8 d8
  | .cpReg .b => .cpB
  | .cpReg .c => .cpC
  | .cpReg .d => .cpD
  | .cpReg .e => .cpE
  | .cpReg .h => .cpH
  | .cpReg .l => .cpL
  | .cpReg .a => .cpA
  | .cpHl => .cpMemHl
  | .cpImm d8 => .cpD8 d8
  | .incReg .b => .incB
  | .incReg .c => .incC
  | .incReg .d => .incD
  | .incReg .e => .incE
  | .incReg .h => .incH
  | .incReg .l => .incL
  | .incReg .a => .incA
  | .incMem => .incMemHl
  | .decReg .b => .decB
  | .decReg .c => .decC
  | .decReg .d => .decD
  | .decReg .e => .decE
  | .decReg .h => .decH
  | .decReg .l => .decL
  | .decReg .a => .decA
  | .decMem => .decMemHl
  | .incPair .bc => .incBc
  | .incPair .de => .incDe
  | .incPair .hl => .incHl
  | .decPair .bc => .decBc
  | .decPair .de => .decDe
  | .decPair .hl => .decHl
  | .incSp => .incSp
  | .decSp => .decSp
  | .rlca => .rlca
  | .rla => .rla
  | .rlcReg .b => .rlcB
  | .rlcReg .c => .rlcC
  | .rlcReg .d => .rlcD
  | .rlcReg .e => .rlcE
  | .rlcReg .h => .rlcH
  | .rlcReg .l => .rlcL
  | .rlcReg .a => .rlcA
  | .rlcHl => .rlcMemHl
  | .rlReg .b => .rlB
  | .rlReg .c => .rlC
  | .rlReg .d => .rlD
  | .rlReg .e => .rlE
  | .rlReg .h => .rlH
  | .rlReg .l => .rlL
  | .rlReg .a => .rlA
  | .rlHl => .rlMemHl
  | .bitReg 0 .b => .bit0B
  | .bitReg 0 .c => .bit0C
  | .bitReg 0 .d => .bit0D
  | .bitReg 0 .e => .bit0E
  | .bitReg 0 .h => .bit0H
  | .bitReg 0 .l => .bit0L
  | .bitReg 0 .a => .bit0A
  | .bitReg 1 .b => .bit1B
  | .bitReg 1 .c => .bit1C
  | .bitReg 1 .d => .bit1D
  | .bitReg 1 .e => .bit1E
  | .bitReg 1 .h => .bit1H
  | .bitReg 1 .l => .bit1L
  | .bitReg 1 .a => .bit1A
  | .bitReg 2 .b => .bit2B
  | .bitReg 2 .c => .bit2C
  | .bitReg 2 .d => .bit2D
  | .bitReg 2 .e => .bit2E
  | .bitReg 2 .h => .bit2H
  | .bitReg 2 .l => .bit2L
  | .bitReg 2 .a => .bit2A
  | .bitReg 3 .b => .bit3B
  | .bitReg 3 .c => .bit3C
  | .bitReg 3 .d => .bit3D
  | .bitReg 3 .e => .bit3E
  | .bitReg 3 .h => .bit3H
  | .bitReg 3 .l => .bit3L
  | .bitReg 3 .a => .bit3A
  | .bitReg 4 .b => .bit4B
  | .bitReg 4 .c => .bit4C
  | .bitReg 4 .d => .bit4D
  | .bitReg 4 .e => .bit4E
  | .bitReg 4 .h => .bit4H
  | .bitReg 4 .l => .bit4L
  | .bitReg 4 .a => .bit4A
  | .bitReg 5 .b => .bit5B
  | .bitReg 5 .c => .bit5C
  | .bitReg 5 .d => .bit5D
  | .bitReg 5 .e => .bit5E
  | .bitReg 5 .h => .bit5H
  | .bitReg 5 .l => .bit5L
  | .bitReg 5 .a => .bit5A
  | .bitReg 6 .b => .bit6B
  | .bitReg 6 .c => .bit6C
  | .bitReg 6 .d => .bit6D
  | .bitReg 6 .e => .bit6E
  | .bitReg 6 .h => .bit6H
  | .bitReg 6 .l => .bit6L
  | .bitReg 6 .a => .bit6A
  | .bitReg 7 .b => .bit7B
  | .bitReg 7 .c => .bit7C
  | .bitReg 7 .d => .bit7D
  | .bitReg 7 .e => .bit7E
  | .bitReg 7 .h => .bit7H
  | .bitReg 7 .l => .bit7L
  | .bitReg 7 .a => .bit7A
  | .bitHl 0 => .bit0MemHl
  | .bitHl 1 => .bit1MemHl
  | .bitHl 2 => .bit2MemHl
  | .bitHl 3 => .bit3MemHl
  | .bitHl 4 => .bit4MemHl
  | .bitHl 5 => .bit5MemHl
  | .bitHl 6 => .bit6MemHl
  | .bitHl 7 => .bit7MemHl
  | .jr r8 => .jrR8 r8
  | .jrCond .nz r8 => .jrNzR8 r8
  | .jrCond .z r8 => .jrZR8 r8
  | .jrCond .nc r8 => .jrNcR8 r8
  | .jrCond .c r8 => .jrCR8 r8
  | .call a16 => .callA16 a16
  | .callCond .nz a16 => .callNzA16 a16
  | .callCond .z a16 => .callZA16 a16
  | .callCond .nc a16 => .callNcA16 a16
  | .callCond .c a16 => .callCA16 a16
  | .ret => .ret
  | .retCond .nz => .retNz
  | .retCond .z => .retZ
  | .retCond .nc => .retNc
  | .retCond .c => .retC
  | .ldReg .b .b => .ldBB
  | .ldReg .b .c => .ldBC
  | .ldReg .b .d => .ldBD
  | .ldReg .b .e => .ldBE
  | .ldReg .b .h => .ldBH
  | .ldReg .b .l => .ldBL
  | .ldReg .b .a => .ldBA
  | .ldReg .c .b => .ldCB
  | .ldReg .c .c => .ldCC
  | .ldReg .c .d => .ldCD
  | .ldReg .c .e => .ldCE
  | .ldReg .c .h => .ldCH
  | .ldReg .c .l => .ldCL
  | .ldReg .c .a => .ldCA
  | .ldReg .d .b => .ldDB
  | .ldReg .d .c => .ldDC
  | .ldReg .d .d => .ldDD
  | .ldReg .d .e => .ldDE
  | .ldReg .d .h => .ldDH
  | .ldReg .d .l => .ldDL
  | .ldReg .d .a => .ldDA
  | .ldReg .e .b => .ldEB
  | .ldReg .e .c => .ldEC
  | .ldReg .e .d => .ldED
  | .ldReg .e .e => .ldEE
  | .ldReg .e .h => .ldEH
  | .ldReg .e .l => .ldEL
  | .ldReg .e .a => .ldEA
  | .ldReg .h .b => .ldHB
  | .ldReg .h .c => .ldHC
  | .ldReg .h .d => .ldHD
  | .ldReg .h .e => .ldHE
  | .ldReg .h .h => .ldHH
  | .ldReg .h .l => .ldHL
  | .ldReg .h .a => .ldHA
  | .ldReg .l .b => .ldLB
  | .ldReg .l .c => .ldLC
  | .ldReg .l .d => .ldLD
  | .ldReg .l .e => .ldLE
  | .ldReg .l .h => .ldLH
  | .ldReg .l .l => .ldLL
  | .ldReg .l .a => .ldLA
  | .ldReg .a .b => .ldAB
  | .ldReg .a .c => .ldAC
  | .ldReg .a .d => .ldAD
  | .ldReg .a .e => .ldAE
  | .ldReg .a .h => .ldAH
  | .ldReg .a .l => .ldAL
  | .ldReg .a .a => .ldAA
  | .ldRegHl .b => .ldBMemHl
  | .ldRegHl .c => .ldCMemHl
  | .ldRegHl .d => .ldDMemHl
  | .ldRegHl .e => .ldEMemHl
  | .ldRegHl .h => .ldHMemHl
  | .ldRegHl .l => .ldLMemHl
  | .ldRegHl .a => .ldAMemHl
  | .ldHlReg .b => .ldMemHlB
  | .ldHlReg .c => .ldMemHlC
  | .ldHlReg .d => .ldMemHlD
  | .ldHlReg .e => .ldMemHlE
  | .ldHlReg .h => .ldMemHlH
  | .ldHlReg .l => .ldMemHlL
  | .ldHlReg .a => .ldMemHlA
  | .ldRegImm .b d8 => .ldBD8 d8
  | .ldRegImm .c d8 => .ldCD8 d8
  | .ldRegImm .d d8 => .ldDD8 d8
  | .ldRegImm .e d8 => .ldED8 d8
  | .ldRegImm .h d8 => .ldHD8 d8
  | .ldRegImm .l d8 => .ldLD8 d8
  | .ldRegImm .a d8 => .ldAD8 d8
  | .ldHlImm d8 => .ldMemHlD8 d8
  | .ldABc => .ldAMemBc
  | .ldADe => .ldAMemDe
  | .ldBcA => .ldMemBcA
  | .ldDeA => .ldMemDeA
  | .ldHlIncA => .ldMemHlIncA
  | .ldHlDecA => .ldMemHlDecA
  | .ldAHlInc => .ldAMemHlInc
  | .ldAHlDec => .ldAMemHlDec
  | .ldhStore a8 => .ldhMemA8A a8
  | .ldhLoad a8 => .ldhAMemA8 a8
  | .ldFastCA => .ldMemCA
  | .ldAFastC => .ldAMemC
  | .ldAbsA a16 => .ldMemA16A a16
  | .ldAAbs a16 => .ldAMemA16 a16
  | .ldPairImm .bc d16 => .ldBcD16 d16
  | .ldPairImm .de d16 => .ldDeD16 d16
  | .ldPairImm .hl d16 => .ldHlD16 d16
  | .ldSpImm d16 => .ldSpD16 d16
  | .ldSpHl => .ldSpHl
  | .push .bc => .pushBc
  | .push .de => .pushDe
  | .push .hl => .pushHl
  | .push .af => .pushAf
  | .pop .bc => .popBc
  | .pop .de => .popDe
  | .pop .hl => .popHl
  | .popAf => .popAf

/-- The format of an instruction (30_encoding.md R82). -/
def Instr.format : Instr → Format
  | .ldBcD16 _ => .opD16
  | .ldMemBcA => .op
  | .incBc => .op
  | .incB => .op
  | .decB => .op
  | .ldBD8 _ => .opD8
  | .rlca => .op
  | .ldAMemBc => .op
  | .decBc => .op
  | .incC => .op
  | .decC => .op
  | .ldCD8 _ => .opD8
  | .ldDeD16 _ => .opD16
  | .ldMemDeA => .op
  | .incDe => .op
  | .incD => .op
  | .decD => .op
  | .ldDD8 _ => .opD8
  | .rla => .op
  | .jrR8 _ => .opR8
  | .ldAMemDe => .op
  | .decDe => .op
  | .incE => .op
  | .decE => .op
  | .ldED8 _ => .opD8
  | .jrNzR8 _ => .opR8
  | .ldHlD16 _ => .opD16
  | .ldMemHlIncA => .op
  | .incHl => .op
  | .incH => .op
  | .decH => .op
  | .ldHD8 _ => .opD8
  | .jrZR8 _ => .opR8
  | .ldAMemHlInc => .op
  | .decHl => .op
  | .incL => .op
  | .decL => .op
  | .ldLD8 _ => .opD8
  | .jrNcR8 _ => .opR8
  | .ldSpD16 _ => .opD16
  | .ldMemHlDecA => .op
  | .incSp => .op
  | .incMemHl => .op
  | .decMemHl => .op
  | .ldMemHlD8 _ => .opD8
  | .jrCR8 _ => .opR8
  | .ldAMemHlDec => .op
  | .decSp => .op
  | .incA => .op
  | .decA => .op
  | .ldAD8 _ => .opD8
  | .ldBB => .op
  | .ldBC => .op
  | .ldBD => .op
  | .ldBE => .op
  | .ldBH => .op
  | .ldBL => .op
  | .ldBMemHl => .op
  | .ldBA => .op
  | .ldCB => .op
  | .ldCC => .op
  | .ldCD => .op
  | .ldCE => .op
  | .ldCH => .op
  | .ldCL => .op
  | .ldCMemHl => .op
  | .ldCA => .op
  | .ldDB => .op
  | .ldDC => .op
  | .ldDD => .op
  | .ldDE => .op
  | .ldDH => .op
  | .ldDL => .op
  | .ldDMemHl => .op
  | .ldDA => .op
  | .ldEB => .op
  | .ldEC => .op
  | .ldED => .op
  | .ldEE => .op
  | .ldEH => .op
  | .ldEL => .op
  | .ldEMemHl => .op
  | .ldEA => .op
  | .ldHB => .op
  | .ldHC => .op
  | .ldHD => .op
  | .ldHE => .op
  | .ldHH => .op
  | .ldHL => .op
  | .ldHMemHl => .op
  | .ldHA => .op
  | .ldLB => .op
  | .ldLC => .op
  | .ldLD => .op
  | .ldLE => .op
  | .ldLH => .op
  | .ldLL => .op
  | .ldLMemHl => .op
  | .ldLA => .op
  | .ldMemHlB => .op
  | .ldMemHlC => .op
  | .ldMemHlD => .op
  | .ldMemHlE => .op
  | .ldMemHlH => .op
  | .ldMemHlL => .op
  | .ldMemHlA => .op
  | .ldAB => .op
  | .ldAC => .op
  | .ldAD => .op
  | .ldAE => .op
  | .ldAH => .op
  | .ldAL => .op
  | .ldAMemHl => .op
  | .ldAA => .op
  | .addAB => .op
  | .addAC => .op
  | .addAD => .op
  | .addAE => .op
  | .addAH => .op
  | .addAL => .op
  | .addAMemHl => .op
  | .addAA => .op
  | .subB => .op
  | .subC => .op
  | .subD => .op
  | .subE => .op
  | .subH => .op
  | .subL => .op
  | .subMemHl => .op
  | .subA => .op
  | .xorB => .op
  | .xorC => .op
  | .xorD => .op
  | .xorE => .op
  | .xorH => .op
  | .xorL => .op
  | .xorMemHl => .op
  | .xorA => .op
  | .cpB => .op
  | .cpC => .op
  | .cpD => .op
  | .cpE => .op
  | .cpH => .op
  | .cpL => .op
  | .cpMemHl => .op
  | .cpA => .op
  | .retNz => .op
  | .popBc => .op
  | .callNzA16 _ => .opD16
  | .pushBc => .op
  | .addAD8 _ => .opD8
  | .retZ => .op
  | .ret => .op
  | .callZA16 _ => .opD16
  | .callA16 _ => .opD16
  | .retNc => .op
  | .popDe => .op
  | .callNcA16 _ => .opD16
  | .pushDe => .op
  | .subD8 _ => .opD8
  | .retC => .op
  | .callCA16 _ => .opD16
  | .ldhMemA8A _ => .opD8
  | .popHl => .op
  | .ldMemCA => .op
  | .pushHl => .op
  | .ldMemA16A _ => .opD16
  | .xorD8 _ => .opD8
  | .ldhAMemA8 _ => .opD8
  | .popAf => .op
  | .ldAMemC => .op
  | .pushAf => .op
  | .ldSpHl => .op
  | .ldAMemA16 _ => .opD16
  | .cpD8 _ => .opD8
  | .rlcB => .cbOp
  | .rlcC => .cbOp
  | .rlcD => .cbOp
  | .rlcE => .cbOp
  | .rlcH => .cbOp
  | .rlcL => .cbOp
  | .rlcMemHl => .cbOp
  | .rlcA => .cbOp
  | .rlB => .cbOp
  | .rlC => .cbOp
  | .rlD => .cbOp
  | .rlE => .cbOp
  | .rlH => .cbOp
  | .rlL => .cbOp
  | .rlMemHl => .cbOp
  | .rlA => .cbOp
  | .bit0B => .cbOp
  | .bit0C => .cbOp
  | .bit0D => .cbOp
  | .bit0E => .cbOp
  | .bit0H => .cbOp
  | .bit0L => .cbOp
  | .bit0MemHl => .cbOp
  | .bit0A => .cbOp
  | .bit1B => .cbOp
  | .bit1C => .cbOp
  | .bit1D => .cbOp
  | .bit1E => .cbOp
  | .bit1H => .cbOp
  | .bit1L => .cbOp
  | .bit1MemHl => .cbOp
  | .bit1A => .cbOp
  | .bit2B => .cbOp
  | .bit2C => .cbOp
  | .bit2D => .cbOp
  | .bit2E => .cbOp
  | .bit2H => .cbOp
  | .bit2L => .cbOp
  | .bit2MemHl => .cbOp
  | .bit2A => .cbOp
  | .bit3B => .cbOp
  | .bit3C => .cbOp
  | .bit3D => .cbOp
  | .bit3E => .cbOp
  | .bit3H => .cbOp
  | .bit3L => .cbOp
  | .bit3MemHl => .cbOp
  | .bit3A => .cbOp
  | .bit4B => .cbOp
  | .bit4C => .cbOp
  | .bit4D => .cbOp
  | .bit4E => .cbOp
  | .bit4H => .cbOp
  | .bit4L => .cbOp
  | .bit4MemHl => .cbOp
  | .bit4A => .cbOp
  | .bit5B => .cbOp
  | .bit5C => .cbOp
  | .bit5D => .cbOp
  | .bit5E => .cbOp
  | .bit5H => .cbOp
  | .bit5L => .cbOp
  | .bit5MemHl => .cbOp
  | .bit5A => .cbOp
  | .bit6B => .cbOp
  | .bit6C => .cbOp
  | .bit6D => .cbOp
  | .bit6E => .cbOp
  | .bit6H => .cbOp
  | .bit6L => .cbOp
  | .bit6MemHl => .cbOp
  | .bit6A => .cbOp
  | .bit7B => .cbOp
  | .bit7C => .cbOp
  | .bit7D => .cbOp
  | .bit7E => .cbOp
  | .bit7H => .cbOp
  | .bit7L => .cbOp
  | .bit7MemHl => .cbOp
  | .bit7A => .cbOp

/-- The length of an instruction in bytes, the prefix included (30_encoding.md R82, R95). -/
def Instr.length (i : Instr) : Nat := i.format.length

end Sys2Proof
end

