-- ==== Sys2Proof/Machine/State.lean ====
section
/-! DEFINITION. The state of the block (10_state.md), its value after Reset (R45), and the reasons a
transaction can stop. -/

namespace Sys2Proof.Machine

/-- Memory as the bytes that differ from the reset contents, each with its address (log 7). -/
abbrev Memory := List Host.Cell

/-- What an address that `Memory` does not list holds: the reset contents (10_state.md R45). -/
abbrev Memory.unlisted : Byte := kaoboy.memReset

/-- The canonical form: addresses strictly rise and lie in the address space, and no listed byte equals
what an unlisted address holds. -/
abbrev Memory.wf (m : Memory) : Prop :=
  m.Pairwise (fun c d => c.1 < d.1) ∧ ∀ c ∈ m, c.1 < kaoboy.memSize ∧ c.2 ≠ Memory.unlisted

/-- The four video timing modes (10_state.md R38, 50_video_timing.md R231). -/
inductive VideoMode where
  | oamScan | pixelTransfer | hBlank | vBlank
  deriving DecidableEq, Repr

/-- The whole state of the video timing machine (10_state.md R38 to R40). -/
structure Video where
  /-- The active mode (R38). -/
  mode : VideoMode
  /-- The cycles left in the active mode (R39; log 16). -/
  remaining : Nat
  /-- The current scanline index (R40; log 16). -/
  line : Nat
  deriving DecidableEq, Repr

/-- The record of a fault: the table and the offending byte (10_state.md R41, 60_exceptions.md R260). -/
structure FaultInfo where
  table : OpTable
  byte : Byte
  deriving DecidableEq, Repr

/-- The state of the block: everything 10_state.md gives it. The pairs AF, BC, DE and HL are views
(R22), not fields. -/
structure State where
  /-- The accumulator (R20, R21). -/
  a : Byte
  /-- Register B (R20). -/
  b : Byte
  /-- Register C (R20). -/
  c : Byte
  /-- Register D (R20). -/
  d : Byte
  /-- Register E (R20). -/
  e : Byte
  /-- Register F: the flags in bits 7 to 4, plain storage in bits 3 to 0 (R20, R25, R26). -/
  f : Byte
  /-- Register H (R20). -/
  h : Byte
  /-- Register L (R20). -/
  l : Byte
  /-- The stack pointer (R30). -/
  sp : Word
  /-- The program counter (R31). -/
  pc : Word
  /-- Memory (R35). -/
  mem : Memory
  /-- The video timing machine (R38 to R40). -/
  video : Video
  /-- The fault latch: `some info` is `faulted = 1` with `fault_info = info` (R41; log 6). -/
  fault : Option FaultInfo
  deriving DecidableEq, Repr

/-- `faulted` (10_state.md R41). -/
def State.faulted (s : State) : Bool := s.fault.isSome

/-- Why the block stops. -/
inductive Fault where
  /-- Raised by `step` when the fault latch is set, with what the latch records. Safe: the spec says no
  step exists in that state and only Reset leaves it (60_exceptions.md R261; log 5). -/
  | stepWhileFaulted (table : OpTable) (byte : Byte)
  deriving DecidableEq, Repr

/-- What the block gives no meaning to. -/
inductive Refusal where
  /-- Raised by `exec` for an instruction that has no meaning yet. Safe: nothing is claimed of it. -/
  | notModelled (mnemonic : String)
  /-- Raised by `transact` for a Bootstrap image of more than 65536 bytes. Safe: the spec refuses it
  (70_reset_and_hazards.md R293). -/
  | imageTooLong
  /-- Raised by `transact` for a Bootstrap after the first Step. Safe: the spec refuses it
  (70_reset_and_hazards.md R291, R293). -/
  | bootstrapAfterStep
  deriving DecidableEq, Repr

/-- What a step of the CPU answers. -/
abbrev Result := Host.Outcome State Fault Refusal

/-- The video timing machine after Reset (50_video_timing.md R243). -/
def Video.reset : Video := { mode := .oamScan, remaining := kaoboy.budgetOam, line := 0 }

/-- The state after Reset when the registers the spec leaves OPEN take the values `v` (10_state.md R45,
70_reset_and_hazards.md R290). -/
def State.resetWith (v : ResetValues) : State where
  a := v.a
  b := v.b
  c := v.c
  d := v.d
  e := v.e
  f := v.f
  h := v.h
  l := v.l
  sp := v.sp
  pc := kaoboy.resetPc
  mem := []
  video := Video.reset
  fault := none

/-- The state after Reset.

DESIGN CHOICE, unsafe (log 1, log 2): the OPEN registers are zero. A claim that must not rest on that
is stated of `State.resetWith v` for every `v`. -/
def State.reset : State := State.resetWith kaoboy.resetValues

end Sys2Proof.Machine
end

