-- ==== Sys2Proof/Machine/Ops.lean ====
section
/-! DEFINITION. The named operations over registers, memory, the instruction stream and the stack
(00_scope.md R8, R9; 10_state.md; 20_memory.md), and taking the one exception (60_exceptions.md R260). -/

namespace Sys2Proof.Machine

/-! ### Registers -/

/-- `x[r]` (10_state.md R20, 00_scope.md R8). -/
def State.reg (s : State) (r : ByteReg) : Byte :=
  match r with
  | .a => s.a
  | .b => s.b
  | .c => s.c
  | .d => s.d
  | .e => s.e
  | .f => s.f
  | .h => s.h
  | .l => s.l

/-- `x[r] <- v` (10_state.md R20, 00_scope.md R8). -/
def State.setReg (s : State) (r : ByteReg) (v : Byte) : State :=
  match r with
  | .a => { s with a := v }
  | .b => { s with b := v }
  | .c => { s with c := v }
  | .d => { s with d := v }
  | .e => { s with e := v }
  | .f => { s with f := v }
  | .h => { s with h := v }
  | .l => { s with l := v }

/-- The high register of a pair (10_state.md R22). -/
def pairHi : Pair → ByteReg
  | .af => .a
  | .bc => .b
  | .de => .d
  | .hl => .h

/-- The low register of a pair (10_state.md R22). -/
def pairLo : Pair → ByteReg
  | .af => .f
  | .bc => .c
  | .de => .e
  | .hl => .l

/-- `xx[p]` (10_state.md R22, 00_scope.md R8). -/
def State.pair (s : State) (p : Pair) : Word := joinBytes (s.reg (pairHi p)) (s.reg (pairLo p))

/-- `xx[p] <- v` (10_state.md R22, 00_scope.md R8). -/
def State.setPair (s : State) (p : Pair) (v : Word) : State :=
  (s.setReg (pairHi p) (hiByte v)).setReg (pairLo p) (loByte v)

/-- `sp <- v` (00_scope.md R8). -/
def State.setSp (s : State) (v : Word) : State := { s with sp := v }

/-- `pc <- v` (00_scope.md R8). -/
def State.setPc (s : State) (v : Word) : State := { s with pc := v }

/-! ### Memory -/

/-- The byte a memory holds at the address numbered `k`. -/
def Memory.lookup (k : Nat) : Memory → Byte
  | [] => Memory.unlisted
  | c :: m => if c.1 = k then c.2 else Memory.lookup k m

/-- A memory without the cells of the address numbered `k`. -/
def Memory.erase (k : Nat) : Memory → Memory
  | [] => []
  | c :: m => if c.1 = k then Memory.erase k m else c :: Memory.erase k m

/-- Put a cell before the first cell of a higher address. -/
def Memory.insert (k : Nat) (v : Byte) : Memory → Memory
  | [] => [(k, v)]
  | c :: m => if k < c.1 then (k, v) :: c :: m else c :: Memory.insert k v m

/-- `mem[a]` (20_memory.md R50). -/
def Memory.read (m : Memory) (a : Word) : Byte := Memory.lookup a.toNat m

/-- `mem[a] <- v` (20_memory.md R51), keeping the canonical form. -/
def Memory.write (m : Memory) (a : Word) (v : Byte) : Memory :=
  if v = Memory.unlisted then Memory.erase a.toNat m
  else Memory.insert a.toNat v (Memory.erase a.toNat m)

/-- `MemRead(a, 1)` (20_memory.md R50). -/
def State.read8 (s : State) (a : Word) : Byte := s.mem.read a

/-- `MemWrite(a, 1, v)` (20_memory.md R51). -/
def State.write8 (s : State) (a : Word) (v : Byte) : State := { s with mem := s.mem.write a v }

/-- `MemRead(a, 2)` (20_memory.md R52; the second address wraps, R71). -/
def State.read16 (s : State) (a : Word) : Word :=
  joinShort kaoboy.shortOrder (s.read8 a) (s.read8 (a + 1))

/-- `MemWrite(a, 2, v)` (20_memory.md R53; the second address wraps, R71). -/
def State.write16 (s : State) (a : Word) (v : Word) : State :=
  (s.write8 a (firstByte kaoboy.shortOrder v)).write8 (a + 1) (secondByte kaoboy.shortOrder v)

/-! ### The instruction stream -/

/-- `Fetch8()` (20_memory.md R56, 10_state.md R33). -/
def State.fetch8 (s : State) : Byte × State := (s.read8 s.pc, s.setPc (s.pc + 1))

/-- `Fetch16()` (20_memory.md R57). -/
def State.fetch16 (s : State) : Word × State :=
  let (first, s1) := s.fetch8
  let (second, s2) := s1.fetch8
  (joinShort kaoboy.shortOrder first second, s2)

/-! ### The stack -/

/-- `Push(v)` (20_memory.md R58). -/
def State.push (s : State) (v : Word) : State :=
  let s1 := s.setSp (s.sp - 2)
  s1.write16 s1.sp v

/-- `Pop()` (20_memory.md R59). -/
def State.pop (s : State) : Word × State := (s.read16 s.sp, s.setSp (s.sp + 2))

/-! ### The exception -/

/-- `raise UnknownInstruction(table, byte)` (60_exceptions.md R260): the latch is set and nothing else
changes; no register is saved, no mode switched, control goes nowhere (R261, R267). There is no return
from it (R268): only Reset clears the latch. -/
def State.raiseUnknown (s : State) (table : OpTable) (byte : Byte) : State :=
  { s with fault := some { table := table, byte := byte } }

end Sys2Proof.Machine
end

