-- ==== Sys2Proof/Machine/Flags.lean ====
section
/-! DEFINITION. The flags in F (10_state.md R25, R26) and the operation functions that compute them
(40_arith_logic.md R111 to R114; 41_inc_dec.md R130, R131; 42_bit_rotate.md R146, R147, R154), and the
conditions that read them (43_jump_call_return.md R165). Operands are taken as unbounded integers, as
00_scope.md R7 says, and a result is cut to its width at the end. -/

namespace Sys2Proof.Machine

/-- The four flags (10_state.md R25). -/
inductive Flag where
  | z | n | h | c
  deriving DecidableEq, Repr

/-- The mask of a flag in F (10_state.md R25). -/
def flagMask : Flag → Byte
  | .z => kaoboy.flagZ
  | .n => kaoboy.flagN
  | .h => kaoboy.flagH
  | .c => kaoboy.flagC

/-- Write one flag in a value of F and leave its other seven bits (00_scope.md R8, 10_state.md R26). -/
def withFlag (f : Byte) (k : Flag) (on : Bool) : Byte :=
  if on then f ||| flagMask k else f &&& ~~~(flagMask k)

/-- `flag.k` (00_scope.md R8). -/
def State.flag (s : State) (k : Flag) : Bool := s.f &&& flagMask k != 0

/-- `flag.k <- on` (00_scope.md R8). -/
def State.setFlag (s : State) (k : Flag) (on : Bool) : State := { s with f := withFlag s.f k on }

/-- `v & 0xF` as an integer. -/
def lowNibble (v : Byte) : Nat := (v &&& 0x0F).toNat

/-- `OpAdd(l, r)` (40_arith_logic.md R111). -/
def opAdd (l r : Byte) (s : State) : Byte × State :=
  let res : Byte := BitVec.ofNat 8 (l.toNat + r.toNat)
  let s := s.setFlag .c (decide (l.toNat + r.toNat > 255))
  let s := s.setFlag .h (decide (lowNibble l + lowNibble r > 0xF))
  let s := s.setFlag .z (decide (res = 0))
  let s := s.setFlag .n false
  (res, s)

/-- `OpSub(l, r)` (40_arith_logic.md R112). -/
def opSub (l r : Byte) (s : State) : Byte × State :=
  let res : Byte := BitVec.ofInt 8 ((l.toNat : Int) - r.toNat)
  let s := s.setFlag .c (decide (r.toNat > l.toNat))
  let s := s.setFlag .h (decide (lowNibble r > lowNibble l))
  let s := s.setFlag .z (decide (res = 0))
  let s := s.setFlag .n true
  (res, s)

/-- `OpXor(l, r)` (40_arith_logic.md R113). -/
def opXor (l r : Byte) (s : State) : Byte × State :=
  let res : Byte := l ^^^ r
  let s := s.setFlag .z (decide (res = 0))
  let s := s.setFlag .n false
  let s := s.setFlag .h false
  let s := s.setFlag .c false
  (res, s)

/-- `OpCp(l, r)`: the flags of `OpSub`, the result discarded (40_arith_logic.md R114). -/
def opCp (l r : Byte) (s : State) : State := (opSub l r s).2

/-- `OpInc(v)`: the carry flag is not written (41_inc_dec.md R130). -/
def opInc (v : Byte) (s : State) : Byte × State :=
  let res : Byte := BitVec.ofNat 8 (v.toNat + 1)
  let s := s.setFlag .h (decide (lowNibble v + 1 > 0xF))
  let s := s.setFlag .z (decide (res = 0))
  let s := s.setFlag .n false
  (res, s)

/-- `OpDec(v)`: the carry flag is not written (41_inc_dec.md R131). -/
def opDec (v : Byte) (s : State) : Byte × State :=
  let res : Byte := BitVec.ofInt 8 ((v.toNat : Int) - 1)
  let s := s.setFlag .h (decide (1 > lowNibble v))
  let s := s.setFlag .z (decide (res = 0))
  let s := s.setFlag .n true
  (res, s)

/-- The zero flag of a rotate (42_bit_rotate.md R146, R147). -/
def rotateZero (m : ZMode) (res : Byte) : Bool :=
  match m with
  | .zResult => decide (res = 0)
  | .zClear => false

/-- `OpRlc(v, zmode)` (42_bit_rotate.md R146). -/
def opRlc (m : ZMode) (v : Byte) (s : State) : Byte × State :=
  let res : Byte := BitVec.ofNat 8 ((v.toNat <<< 1) ||| (v.toNat >>> 7))
  let s := s.setFlag .c (v.getLsbD 7)
  let s := s.setFlag .h false
  let s := s.setFlag .n false
  let s := s.setFlag .z (rotateZero m res)
  (res, s)

/-- `OpRl(v, zmode)`: the carry comes in at bit 0, read before any flag is written (42_bit_rotate.md
R147). -/
def opRl (m : ZMode) (v : Byte) (s : State) : Byte × State :=
  let cin := s.flag .c
  let res : Byte := BitVec.ofNat 8 ((v.toNat <<< 1) ||| cin.toNat)
  let s := s.setFlag .c (v.getLsbD 7)
  let s := s.setFlag .h false
  let s := s.setFlag .n false
  let s := s.setFlag .z (rotateZero m res)
  (res, s)

/-- `OpBit(n, v)`: no result, the carry flag is not written (42_bit_rotate.md R154). -/
def opBit (n : Fin 8) (v : Byte) (s : State) : State :=
  let s := s.setFlag .z (!v.getLsbD n)
  let s := s.setFlag .n false
  s.setFlag .h true

/-- `Cond(cc)` (43_jump_call_return.md R165). -/
def State.cond (s : State) (cc : Cond) : Bool :=
  match cc with
  | .nz => !s.flag .z
  | .z => s.flag .z
  | .nc => !s.flag .c
  | .c => s.flag .c

end Sys2Proof.Machine
end

