-- ==== Sys2Proof/Machine/Operands.lean ====
section
/-! DEFINITION. The addressing modes (30_encoding.md R86). An immediate is already in the instruction
when its meaning runs: the step fetches it first (Machine/Fetch.lean, log 8). -/

namespace Sys2Proof.Machine

/-- A byte operand that can be read and assigned (30_encoding.md R86, the ByteDestination of
00_scope.md R11). -/
inductive BytePlace where
  /-- A byte register. -/
  | reg (r : ByteReg)
  /-- `(BC)`, `(DE)`, `(HL)`: memory by pair. -/
  | mem (p : Pair)
  /-- `(HL+)`: memory by HL, which is incremented after the access. -/
  | memInc
  /-- `(HL-)`: memory by HL, which is decremented after the access. -/
  | memDec
  /-- `(a8)`: the fast page at an immediate offset. -/
  | fastImm (o : Byte)
  /-- `(C)`: the fast page at the offset in register C. -/
  | fastC
  /-- `(a16)`: memory by immediate address. -/
  | memAbs (a : Word)
  deriving DecidableEq, Repr

/-- A byte operand that can be read (30_encoding.md R86, the ByteSource of 00_scope.md R11). -/
inductive ByteSource where
  /-- An immediate byte `d8`. -/
  | imm (v : Byte)
  /-- Any place. -/
  | of (o : BytePlace)
  deriving DecidableEq, Repr

/-- A short operand that can be read and assigned (30_encoding.md R86, the ShortDestination of
00_scope.md R11). -/
inductive ShortPlace where
  /-- A double register. -/
  | pair (p : Pair)
  /-- The stack pointer. -/
  | sp
  deriving DecidableEq, Repr

/-- A short operand that can be read (30_encoding.md R86, the ShortSource of 00_scope.md R11). -/
inductive ShortSource where
  /-- An immediate short `d16`. -/
  | imm (v : Word)
  /-- Any place. -/
  | of (o : ShortPlace)
  deriving DecidableEq, Repr

/-- The fast-page address of an offset (20_memory.md R71, 30_encoding.md R84). -/
def fastAddress (o : Byte) : Word := kaoboy.ioBase + zext16 o

/-- `xx[HL] <- (xx[HL] + 1) mod 65536` (30_encoding.md R86, 20_memory.md R71). -/
def State.incHl (s : State) : State := s.setPair .hl (s.pair .hl + 1)

/-- `xx[HL] <- (xx[HL] - 1) mod 65536` (30_encoding.md R86, 20_memory.md R71). -/
def State.decHl (s : State) : State := s.setPair .hl (s.pair .hl - 1)

/-- Read a byte place; an auto-index form changes HL strictly after the access (30_encoding.md R86,
70_reset_and_hazards.md R304). -/
def State.readPlace (s : State) (o : BytePlace) : Byte × State :=
  match o with
  | .reg r => (s.reg r, s)
  | .mem p => (s.read8 (s.pair p), s)
  | .memInc => (s.read8 (s.pair .hl), s.incHl)
  | .memDec => (s.read8 (s.pair .hl), s.decHl)
  | .fastImm o => (s.read8 (fastAddress o), s)
  | .fastC => (s.read8 (fastAddress (s.reg .c)), s)
  | .memAbs a => (s.read8 a, s)

/-- Assign `v` to a byte place; an auto-index form changes HL strictly after the access (30_encoding.md
R86, 70_reset_and_hazards.md R304). -/
def State.assignPlace (s : State) (o : BytePlace) (v : Byte) : State :=
  match o with
  | .reg r => s.setReg r v
  | .mem p => s.write8 (s.pair p) v
  | .memInc => (s.write8 (s.pair .hl) v).incHl
  | .memDec => (s.write8 (s.pair .hl) v).decHl
  | .fastImm o => s.write8 (fastAddress o) v
  | .fastC => s.write8 (fastAddress (s.reg .c)) v
  | .memAbs a => s.write8 a v

/-- Read a byte source (30_encoding.md R86). -/
def State.readSource (s : State) (o : ByteSource) : Byte × State :=
  match o with
  | .imm v => (v, s)
  | .of o => s.readPlace o

/-- Read a short place (30_encoding.md R86). -/
def State.readShortPlace (s : State) (o : ShortPlace) : Word :=
  match o with
  | .pair p => s.pair p
  | .sp => s.sp

/-- Assign `v` to a short place (30_encoding.md R86). -/
def State.assignShortPlace (s : State) (o : ShortPlace) (v : Word) : State :=
  match o with
  | .pair p => s.setPair p v
  | .sp => s.setSp v

/-- Read a short source (30_encoding.md R86). -/
def State.readShortSource (s : State) (o : ShortSource) : Word :=
  match o with
  | .imm v => v
  | .of o => s.readShortPlace o

end Sys2Proof.Machine
end

