-- ==== Sys2Proof/Machine/Arith.lean ====
section
/-! DEFINITION. ADD, SUB, XOR and CP (40_arith_logic.md). -/

namespace Sys2Proof.Machine

/-- The template of ADD, SUB and XOR: A is the left operand and the destination, both operands are read
before anything is written (40_arith_logic.md R110, 10_state.md R29). -/
def combineA (op : Byte → Byte → State → Byte × State) (src : ByteSource) (s : State) : State :=
  let (r, s) := s.readSource src
  let l := s.reg .a
  let (res, s) := op l r s
  s.setReg .a res

/-- ADD A,src (40_arith_logic.md R115 to R117). -/
def addA (src : ByteSource) (s : State) : Result := .next (combineA opAdd src s)

/-- SUB src (40_arith_logic.md R118 to R120). -/
def subA (src : ByteSource) (s : State) : Result := .next (combineA opSub src s)

/-- XOR src (40_arith_logic.md R121 to R123). -/
def xorA (src : ByteSource) (s : State) : Result := .next (combineA opXor src s)

/-- CP src: no register is written but F (40_arith_logic.md R124 to R126). -/
def cpA (src : ByteSource) (s : State) : Result :=
  let (r, s) := s.readSource src
  .next (opCp (s.reg .a) r s)

/-- ADD A,B (R115). -/
def execAddAB (s : State) : Result := addA (.of (.reg .b)) s

/-- ADD A,C (R115). -/
def execAddAC (s : State) : Result := addA (.of (.reg .c)) s

/-- ADD A,D (R115). -/
def execAddAD (s : State) : Result := addA (.of (.reg .d)) s

/-- ADD A,E (R115). -/
def execAddAE (s : State) : Result := addA (.of (.reg .e)) s

/-- ADD A,H (R115). -/
def execAddAH (s : State) : Result := addA (.of (.reg .h)) s

/-- ADD A,L (R115). -/
def execAddAL (s : State) : Result := addA (.of (.reg .l)) s

/-- ADD A,(HL) (R116). -/
def execAddAMemHl (s : State) : Result := addA (.of (.mem .hl)) s

/-- ADD A,A (R115). -/
def execAddAA (s : State) : Result := addA (.of (.reg .a)) s

/-- SUB B (R118). -/
def execSubB (s : State) : Result := subA (.of (.reg .b)) s

/-- SUB C (R118). -/
def execSubC (s : State) : Result := subA (.of (.reg .c)) s

/-- SUB D (R118). -/
def execSubD (s : State) : Result := subA (.of (.reg .d)) s

/-- SUB E (R118). -/
def execSubE (s : State) : Result := subA (.of (.reg .e)) s

/-- SUB H (R118). -/
def execSubH (s : State) : Result := subA (.of (.reg .h)) s

/-- SUB L (R118). -/
def execSubL (s : State) : Result := subA (.of (.reg .l)) s

/-- SUB (HL) (R119). -/
def execSubMemHl (s : State) : Result := subA (.of (.mem .hl)) s

/-- SUB A (R118). -/
def execSubA (s : State) : Result := subA (.of (.reg .a)) s

/-- XOR B (R121). -/
def execXorB (s : State) : Result := xorA (.of (.reg .b)) s

/-- XOR C (R121). -/
def execXorC (s : State) : Result := xorA (.of (.reg .c)) s

/-- XOR D (R121). -/
def execXorD (s : State) : Result := xorA (.of (.reg .d)) s

/-- XOR E (R121). -/
def execXorE (s : State) : Result := xorA (.of (.reg .e)) s

/-- XOR H (R121). -/
def execXorH (s : State) : Result := xorA (.of (.reg .h)) s

/-- XOR L (R121). -/
def execXorL (s : State) : Result := xorA (.of (.reg .l)) s

/-- XOR (HL) (R122). -/
def execXorMemHl (s : State) : Result := xorA (.of (.mem .hl)) s

/-- XOR A (R121). -/
def execXorA (s : State) : Result := xorA (.of (.reg .a)) s

/-- CP B (R124). -/
def execCpB (s : State) : Result := cpA (.of (.reg .b)) s

/-- CP C (R124). -/
def execCpC (s : State) : Result := cpA (.of (.reg .c)) s

/-- CP D (R124). -/
def execCpD (s : State) : Result := cpA (.of (.reg .d)) s

/-- CP E (R124). -/
def execCpE (s : State) : Result := cpA (.of (.reg .e)) s

/-- CP H (R124). -/
def execCpH (s : State) : Result := cpA (.of (.reg .h)) s

/-- CP L (R124). -/
def execCpL (s : State) : Result := cpA (.of (.reg .l)) s

/-- CP (HL) (R125). -/
def execCpMemHl (s : State) : Result := cpA (.of (.mem .hl)) s

/-- CP A (R124). -/
def execCpA (s : State) : Result := cpA (.of (.reg .a)) s

/-- ADD A,d8 (R117). -/
def execAddAD8 (d8 : Byte) (s : State) : Result := addA (.imm d8) s

/-- SUB d8 (R120). -/
def execSubD8 (d8 : Byte) (s : State) : Result := subA (.imm d8) s

/-- XOR d8 (R123). -/
def execXorD8 (d8 : Byte) (s : State) : Result := xorA (.imm d8) s

/-- CP d8 (R126). -/
def execCpD8 (d8 : Byte) (s : State) : Result := cpA (.imm d8) s

end Sys2Proof.Machine
end

