-- ==== Sys2Proof/Machine/IncDec.lean ====
section
/-! DEFINITION. INC and DEC, 8-bit and 16-bit (41_inc_dec.md). -/

namespace Sys2Proof.Machine

/-- Read a byte operand, apply an operation to it, write the result back (41_inc_dec.md R132 to R135,
42_bit_rotate.md R148 to R153). -/
def modifyByte (op : Byte → State → Byte × State) (place : BytePlace) (s : State) : State :=
  let (v, s) := s.readPlace place
  let (res, s) := op v s
  s.assignPlace place res

/-- 8-bit INC (41_inc_dec.md R132, R133). -/
def incByte (place : BytePlace) (s : State) : Result := .next (modifyByte opInc place s)

/-- 8-bit DEC (41_inc_dec.md R134, R135). -/
def decByte (place : BytePlace) (s : State) : Result := .next (modifyByte opDec place s)

/-- 16-bit INC: no flag is written (41_inc_dec.md R136, R138). -/
def incShort (place : ShortPlace) (s : State) : Result :=
  .next (s.assignShortPlace place (s.readShortPlace place + 1))

/-- 16-bit DEC: no flag is written (41_inc_dec.md R137, R139). -/
def decShort (place : ShortPlace) (s : State) : Result :=
  .next (s.assignShortPlace place (s.readShortPlace place - 1))

/-- INC BC (R136). -/
def execIncBc (s : State) : Result := incShort (.pair .bc) s

/-- INC B (R132). -/
def execIncB (s : State) : Result := incByte (.reg .b) s

/-- DEC B (R134). -/
def execDecB (s : State) : Result := decByte (.reg .b) s

/-- DEC BC (R137). -/
def execDecBc (s : State) : Result := decShort (.pair .bc) s

/-- INC C (R132). -/
def execIncC (s : State) : Result := incByte (.reg .c) s

/-- DEC C (R134). -/
def execDecC (s : State) : Result := decByte (.reg .c) s

/-- INC DE (R136). -/
def execIncDe (s : State) : Result := incShort (.pair .de) s

/-- INC D (R132). -/
def execIncD (s : State) : Result := incByte (.reg .d) s

/-- DEC D (R134). -/
def execDecD (s : State) : Result := decByte (.reg .d) s

/-- DEC DE (R137). -/
def execDecDe (s : State) : Result := decShort (.pair .de) s

/-- INC E (R132). -/
def execIncE (s : State) : Result := incByte (.reg .e) s

/-- DEC E (R134). -/
def execDecE (s : State) : Result := decByte (.reg .e) s

/-- INC HL (R136). -/
def execIncHl (s : State) : Result := incShort (.pair .hl) s

/-- INC H (R132). -/
def execIncH (s : State) : Result := incByte (.reg .h) s

/-- DEC H (R134). -/
def execDecH (s : State) : Result := decByte (.reg .h) s

/-- DEC HL (R137). -/
def execDecHl (s : State) : Result := decShort (.pair .hl) s

/-- INC L (R132). -/
def execIncL (s : State) : Result := incByte (.reg .l) s

/-- DEC L (R134). -/
def execDecL (s : State) : Result := decByte (.reg .l) s

/-- INC SP (R138). -/
def execIncSp (s : State) : Result := incShort .sp s

/-- INC (HL) (R133). -/
def execIncMemHl (s : State) : Result := incByte (.mem .hl) s

/-- DEC (HL) (R135). -/
def execDecMemHl (s : State) : Result := decByte (.mem .hl) s

/-- DEC SP (R139). -/
def execDecSp (s : State) : Result := decShort .sp s

/-- INC A (R132). -/
def execIncA (s : State) : Result := incByte (.reg .a) s

/-- DEC A (R134). -/
def execDecA (s : State) : Result := decByte (.reg .a) s

end Sys2Proof.Machine
end

