-- ==== Sys2Proof/Machine/BitRotate.lean ====
section
/-! DEFINITION. Rotate left and bit test (42_bit_rotate.md). -/

namespace Sys2Proof.Machine

/-- RLCA and RLC (42_bit_rotate.md R148, R150, R151). -/
def rotateCircular (m : ZMode) (place : BytePlace) (s : State) : Result :=
  .next (modifyByte (opRlc m) place s)

/-- RLA and RL (42_bit_rotate.md R149, R152, R153). -/
def rotateThroughCarry (m : ZMode) (place : BytePlace) (s : State) : Result :=
  .next (modifyByte (opRl m) place s)

/-- BIT n,src: nothing is written but flags (42_bit_rotate.md R155, R156). -/
def bitTest (n : Fin 8) (src : ByteSource) (s : State) : Result :=
  let (v, s) := s.readSource src
  .next (opBit n v s)

/-- RLCA (R148). -/
def execRlca (s : State) : Result := rotateCircular kaoboy.rotateZ.rlca (.reg .a) s

/-- RLA (R149). -/
def execRla (s : State) : Result := rotateThroughCarry kaoboy.rotateZ.rla (.reg .a) s

/-- RLC B (R150). -/
def execRlcB (s : State) : Result := rotateCircular kaoboy.rotateZ.rlc (.reg .b) s

/-- RLC C (R150). -/
def execRlcC (s : State) : Result := rotateCircular kaoboy.rotateZ.rlc (.reg .c) s

/-- RLC D (R150). -/
def execRlcD (s : State) : Result := rotateCircular kaoboy.rotateZ.rlc (.reg .d) s

/-- RLC E (R150). -/
def execRlcE (s : State) : Result := rotateCircular kaoboy.rotateZ.rlc (.reg .e) s

/-- RLC H (R150). -/
def execRlcH (s : State) : Result := rotateCircular kaoboy.rotateZ.rlc (.reg .h) s

/-- RLC L (R150). -/
def execRlcL (s : State) : Result := rotateCircular kaoboy.rotateZ.rlc (.reg .l) s

/-- RLC (HL) (R151). -/
def execRlcMemHl (s : State) : Result := rotateCircular kaoboy.rotateZ.rlc (.mem .hl) s

/-- RLC A (R150). -/
def execRlcA (s : State) : Result := rotateCircular kaoboy.rotateZ.rlc (.reg .a) s

/-- RL B (R152). -/
def execRlB (s : State) : Result := rotateThroughCarry kaoboy.rotateZ.rl (.reg .b) s

/-- RL C (R152). -/
def execRlC (s : State) : Result := rotateThroughCarry kaoboy.rotateZ.rl (.reg .c) s

/-- RL D (R152). -/
def execRlD (s : State) : Result := rotateThroughCarry kaoboy.rotateZ.rl (.reg .d) s

/-- RL E (R152). -/
def execRlE (s : State) : Result := rotateThroughCarry kaoboy.rotateZ.rl (.reg .e) s

/-- RL H (R152). -/
def execRlH (s : State) : Result := rotateThroughCarry kaoboy.rotateZ.rl (.reg .h) s

/-- RL L (R152). -/
def execRlL (s : State) : Result := rotateThroughCarry kaoboy.rotateZ.rl (.reg .l) s

/-- RL (HL) (R153). -/
def execRlMemHl (s : State) : Result := rotateThroughCarry kaoboy.rotateZ.rl (.mem .hl) s

/-- RL A (R152). -/
def execRlA (s : State) : Result := rotateThroughCarry kaoboy.rotateZ.rl (.reg .a) s

/-- BIT 0,B (R155). -/
def execBit0B (s : State) : Result := bitTest 0 (.of (.reg .b)) s

/-- BIT 0,C (R155). -/
def execBit0C (s : State) : Result := bitTest 0 (.of (.reg .c)) s

/-- BIT 0,D (R155). -/
def execBit0D (s : State) : Result := bitTest 0 (.of (.reg .d)) s

/-- BIT 0,E (R155). -/
def execBit0E (s : State) : Result := bitTest 0 (.of (.reg .e)) s

/-- BIT 0,H (R155). -/
def execBit0H (s : State) : Result := bitTest 0 (.of (.reg .h)) s

/-- BIT 0,L (R155). -/
def execBit0L (s : State) : Result := bitTest 0 (.of (.reg .l)) s

/-- BIT 0,(HL) (R156). -/
def execBit0MemHl (s : State) : Result := bitTest 0 (.of (.mem .hl)) s

/-- BIT 0,A (R155). -/
def execBit0A (s : State) : Result := bitTest 0 (.of (.reg .a)) s

/-- BIT 1,B (R155). -/
def execBit1B (s : State) : Result := bitTest 1 (.of (.reg .b)) s

/-- BIT 1,C (R155). -/
def execBit1C (s : State) : Result := bitTest 1 (.of (.reg .c)) s

/-- BIT 1,D (R155). -/
def execBit1D (s : State) : Result := bitTest 1 (.of (.reg .d)) s

/-- BIT 1,E (R155). -/
def execBit1E (s : State) : Result := bitTest 1 (.of (.reg .e)) s

/-- BIT 1,H (R155). -/
def execBit1H (s : State) : Result := bitTest 1 (.of (.reg .h)) s

/-- BIT 1,L (R155). -/
def execBit1L (s : State) : Result := bitTest 1 (.of (.reg .l)) s

/-- BIT 1,(HL) (R156). -/
def execBit1MemHl (s : State) : Result := bitTest 1 (.of (.mem .hl)) s

/-- BIT 1,A (R155). -/
def execBit1A (s : State) : Result := bitTest 1 (.of (.reg .a)) s

/-- BIT 2,B (R155). -/
def execBit2B (s : State) : Result := bitTest 2 (.of (.reg .b)) s

/-- BIT 2,C (R155). -/
def execBit2C (s : State) : Result := bitTest 2 (.of (.reg .c)) s

/-- BIT 2,D (R155). -/
def execBit2D (s : State) : Result := bitTest 2 (.of (.reg .d)) s

/-- BIT 2,E (R155). -/
def execBit2E (s : State) : Result := bitTest 2 (.of (.reg .e)) s

/-- BIT 2,H (R155). -/
def execBit2H (s : State) : Result := bitTest 2 (.of (.reg .h)) s

/-- BIT 2,L (R155). -/
def execBit2L (s : State) : Result := bitTest 2 (.of (.reg .l)) s

/-- BIT 2,(HL) (R156). -/
def execBit2MemHl (s : State) : Result := bitTest 2 (.of (.mem .hl)) s

/-- BIT 2,A (R155). -/
def execBit2A (s : State) : Result := bitTest 2 (.of (.reg .a)) s

/-- BIT 3,B (R155). -/
def execBit3B (s : State) : Result := bitTest 3 (.of (.reg .b)) s

/-- BIT 3,C (R155). -/
def execBit3C (s : State) : Result := bitTest 3 (.of (.reg .c)) s

/-- BIT 3,D (R155). -/
def execBit3D (s : State) : Result := bitTest 3 (.of (.reg .d)) s

/-- BIT 3,E (R155). -/
def execBit3E (s : State) : Result := bitTest 3 (.of (.reg .e)) s

/-- BIT 3,H (R155). -/
def execBit3H (s : State) : Result := bitTest 3 (.of (.reg .h)) s

/-- BIT 3,L (R155). -/
def execBit3L (s : State) : Result := bitTest 3 (.of (.reg .l)) s

/-- BIT 3,(HL) (R156). -/
def execBit3MemHl (s : State) : Result := bitTest 3 (.of (.mem .hl)) s

/-- BIT 3,A (R155). -/
def execBit3A (s : State) : Result := bitTest 3 (.of (.reg .a)) s

/-- BIT 4,B (R155). -/
def execBit4B (s : State) : Result := bitTest 4 (.of (.reg .b)) s

/-- BIT 4,C (R155). -/
def execBit4C (s : State) : Result := bitTest 4 (.of (.reg .c)) s

/-- BIT 4,D (R155). -/
def execBit4D (s : State) : Result := bitTest 4 (.of (.reg .d)) s

/-- BIT 4,E (R155). -/
def execBit4E (s : State) : Result := bitTest 4 (.of (.reg .e)) s

/-- BIT 4,H (R155). -/
def execBit4H (s : State) : Result := bitTest 4 (.of (.reg .h)) s

/-- BIT 4,L (R155). -/
def execBit4L (s : State) : Result := bitTest 4 (.of (.reg .l)) s

/-- BIT 4,(HL) (R156). -/
def execBit4MemHl (s : State) : Result := bitTest 4 (.of (.mem .hl)) s

/-- BIT 4,A (R155). -/
def execBit4A (s : State) : Result := bitTest 4 (.of (.reg .a)) s

/-- BIT 5,B (R155). -/
def execBit5B (s : State) : Result := bitTest 5 (.of (.reg .b)) s

/-- BIT 5,C (R155). -/
def execBit5C (s : State) : Result := bitTest 5 (.of (.reg .c)) s

/-- BIT 5,D (R155). -/
def execBit5D (s : State) : Result := bitTest 5 (.of (.reg .d)) s

/-- BIT 5,E (R155). -/
def execBit5E (s : State) : Result := bitTest 5 (.of (.reg .e)) s

/-- BIT 5,H (R155). -/
def execBit5H (s : State) : Result := bitTest 5 (.of (.reg .h)) s

/-- BIT 5,L (R155). -/
def execBit5L (s : State) : Result := bitTest 5 (.of (.reg .l)) s

/-- BIT 5,(HL) (R156). -/
def execBit5MemHl (s : State) : Result := bitTest 5 (.of (.mem .hl)) s

/-- BIT 5,A (R155). -/
def execBit5A (s : State) : Result := bitTest 5 (.of (.reg .a)) s

/-- BIT 6,B (R155). -/
def execBit6B (s : State) : Result := bitTest 6 (.of (.reg .b)) s

/-- BIT 6,C (R155). -/
def execBit6C (s : State) : Result := bitTest 6 (.of (.reg .c)) s

/-- BIT 6,D (R155). -/
def execBit6D (s : State) : Result := bitTest 6 (.of (.reg .d)) s

/-- BIT 6,E (R155). -/
def execBit6E (s : State) : Result := bitTest 6 (.of (.reg .e)) s

/-- BIT 6,H (R155). -/
def execBit6H (s : State) : Result := bitTest 6 (.of (.reg .h)) s

/-- BIT 6,L (R155). -/
def execBit6L (s : State) : Result := bitTest 6 (.of (.reg .l)) s

/-- BIT 6,(HL) (R156). -/
def execBit6MemHl (s : State) : Result := bitTest 6 (.of (.mem .hl)) s

/-- BIT 6,A (R155). -/
def execBit6A (s : State) : Result := bitTest 6 (.of (.reg .a)) s

/-- BIT 7,B (R155). -/
def execBit7B (s : State) : Result := bitTest 7 (.of (.reg .b)) s

/-- BIT 7,C (R155). -/
def execBit7C (s : State) : Result := bitTest 7 (.of (.reg .c)) s

/-- BIT 7,D (R155). -/
def execBit7D (s : State) : Result := bitTest 7 (.of (.reg .d)) s

/-- BIT 7,E (R155). -/
def execBit7E (s : State) : Result := bitTest 7 (.of (.reg .e)) s

/-- BIT 7,H (R155). -/
def execBit7H (s : State) : Result := bitTest 7 (.of (.reg .h)) s

/-- BIT 7,L (R155). -/
def execBit7L (s : State) : Result := bitTest 7 (.of (.reg .l)) s

/-- BIT 7,(HL) (R156). -/
def execBit7MemHl (s : State) : Result := bitTest 7 (.of (.mem .hl)) s

/-- BIT 7,A (R155). -/
def execBit7A (s : State) : Result := bitTest 7 (.of (.reg .a)) s

end Sys2Proof.Machine
end

