-- ==== Sys2Proof/Machine/Jump.lean ====
section
/-! DEFINITION. JR, CALL and RET (43_jump_call_return.md). `pc` is past the whole instruction when a
meaning runs (10_state.md R32). -/

namespace Sys2Proof.Machine

/-- JR (43_jump_call_return.md R166, R167). -/
def jumpRelative (taken : Bool) (r8 : Byte) (s : State) : Result :=
  if taken then .next (s.setPc (s.pc + sext16 r8)) else .next s

/-- CALL (43_jump_call_return.md R168, R169). -/
def callAbsolute (taken : Bool) (a16 : Word) (s : State) : Result :=
  if taken then .next ((s.push s.pc).setPc a16) else .next s

/-- RET (43_jump_call_return.md R170, R171). -/
def returnFrom (taken : Bool) (s : State) : Result :=
  if taken then
    let (target, s) := s.pop
    .next (s.setPc target)
  else .next s

/-- JR r8 (R166). -/
def execJrR8 (r8 : Byte) (s : State) : Result := jumpRelative true r8 s

/-- JR NZ,r8 (R167). -/
def execJrNzR8 (r8 : Byte) (s : State) : Result := jumpRelative (s.cond .nz) r8 s

/-- JR Z,r8 (R167). -/
def execJrZR8 (r8 : Byte) (s : State) : Result := jumpRelative (s.cond .z) r8 s

/-- JR NC,r8 (R167). -/
def execJrNcR8 (r8 : Byte) (s : State) : Result := jumpRelative (s.cond .nc) r8 s

/-- JR C,r8 (R167). -/
def execJrCR8 (r8 : Byte) (s : State) : Result := jumpRelative (s.cond .c) r8 s

/-- RET NZ (R171). -/
def execRetNz (s : State) : Result := returnFrom (s.cond .nz) s

/-- CALL NZ,a16 (R169). -/
def execCallNzA16 (a16 : Word) (s : State) : Result := callAbsolute (s.cond .nz) a16 s

/-- RET Z (R171). -/
def execRetZ (s : State) : Result := returnFrom (s.cond .z) s

/-- RET (R170). -/
def execRet (s : State) : Result := returnFrom true s

/-- CALL Z,a16 (R169). -/
def execCallZA16 (a16 : Word) (s : State) : Result := callAbsolute (s.cond .z) a16 s

/-- CALL a16 (R168). -/
def execCallA16 (a16 : Word) (s : State) : Result := callAbsolute true a16 s

/-- RET NC (R171). -/
def execRetNc (s : State) : Result := returnFrom (s.cond .nc) s

/-- CALL NC,a16 (R169). -/
def execCallNcA16 (a16 : Word) (s : State) : Result := callAbsolute (s.cond .nc) a16 s

/-- RET C (R171). -/
def execRetC (s : State) : Result := returnFrom (s.cond .c) s

/-- CALL C,a16 (R169). -/
def execCallCA16 (a16 : Word) (s : State) : Result := callAbsolute (s.cond .c) a16 s

end Sys2Proof.Machine
end

