-- ==== Sys2Proof/Machine/Load.lean ====
section
/-! DEFINITION. Loads and stores (44_load.md). -/

namespace Sys2Proof.Machine

/-- Every byte load and store is a copy from one operand to another: the source is read completely, an
auto-index included, and then assigned; no flag is touched (44_load.md R180). -/
def copyByte (dst : BytePlace) (src : ByteSource) (s : State) : Result :=
  let (v, s) := s.readSource src
  .next (s.assignPlace dst v)

/-- Every 16-bit load is a copy from one operand to another (44_load.md R180). -/
def copyShort (dst : ShortPlace) (src : ShortSource) (s : State) : Result :=
  .next (s.assignShortPlace dst (s.readShortSource src))

/-- LD BC,d16 (R202). -/
def execLdBcD16 (d16 : Word) (s : State) : Result := copyShort (.pair .bc) (.imm d16) s

/-- LD (BC),A (R188). -/
def execLdMemBcA (s : State) : Result := copyByte (.mem .bc) (.of (.reg .a)) s

/-- LD B,d8 (R184). -/
def execLdBD8 (d8 : Byte) (s : State) : Result := copyByte (.reg .b) (.imm d8) s

/-- LD A,(BC) (R186). -/
def execLdAMemBc (s : State) : Result := copyByte (.reg .a) (.of (.mem .bc)) s

/-- LD C,d8 (R184). -/
def execLdCD8 (d8 : Byte) (s : State) : Result := copyByte (.reg .c) (.imm d8) s

/-- LD DE,d16 (R202). -/
def execLdDeD16 (d16 : Word) (s : State) : Result := copyShort (.pair .de) (.imm d16) s

/-- LD (DE),A (R189). -/
def execLdMemDeA (s : State) : Result := copyByte (.mem .de) (.of (.reg .a)) s

/-- LD D,d8 (R184). -/
def execLdDD8 (d8 : Byte) (s : State) : Result := copyByte (.reg .d) (.imm d8) s

/-- LD A,(DE) (R187). -/
def execLdAMemDe (s : State) : Result := copyByte (.reg .a) (.of (.mem .de)) s

/-- LD E,d8 (R184). -/
def execLdED8 (d8 : Byte) (s : State) : Result := copyByte (.reg .e) (.imm d8) s

/-- LD HL,d16 (R202). -/
def execLdHlD16 (d16 : Word) (s : State) : Result := copyShort (.pair .hl) (.imm d16) s

/-- LD (HL+),A (R190). -/
def execLdMemHlIncA (s : State) : Result := copyByte .memInc (.of (.reg .a)) s

/-- LD H,d8 (R184). -/
def execLdHD8 (d8 : Byte) (s : State) : Result := copyByte (.reg .h) (.imm d8) s

/-- LD A,(HL+) (R192). -/
def execLdAMemHlInc (s : State) : Result := copyByte (.reg .a) (.of .memInc) s

/-- LD L,d8 (R184). -/
def execLdLD8 (d8 : Byte) (s : State) : Result := copyByte (.reg .l) (.imm d8) s

/-- LD SP,d16 (R200). -/
def execLdSpD16 (d16 : Word) (s : State) : Result := copyShort .sp (.imm d16) s

/-- LD (HL-),A (R191). -/
def execLdMemHlDecA (s : State) : Result := copyByte .memDec (.of (.reg .a)) s

/-- LD (HL),d8 (R185). -/
def execLdMemHlD8 (d8 : Byte) (s : State) : Result := copyByte (.mem .hl) (.imm d8) s

/-- LD A,(HL-) (R193). -/
def execLdAMemHlDec (s : State) : Result := copyByte (.reg .a) (.of .memDec) s

/-- LD A,d8 (R184). -/
def execLdAD8 (d8 : Byte) (s : State) : Result := copyByte (.reg .a) (.imm d8) s

/-- LD B,B (R181). -/
def execLdBB (s : State) : Result := copyByte (.reg .b) (.of (.reg .b)) s

/-- LD B,C (R181). -/
def execLdBC (s : State) : Result := copyByte (.reg .b) (.of (.reg .c)) s

/-- LD B,D (R181). -/
def execLdBD (s : State) : Result := copyByte (.reg .b) (.of (.reg .d)) s

/-- LD B,E (R181). -/
def execLdBE (s : State) : Result := copyByte (.reg .b) (.of (.reg .e)) s

/-- LD B,H (R181). -/
def execLdBH (s : State) : Result := copyByte (.reg .b) (.of (.reg .h)) s

/-- LD B,L (R181). -/
def execLdBL (s : State) : Result := copyByte (.reg .b) (.of (.reg .l)) s

/-- LD B,(HL) (R182). -/
def execLdBMemHl (s : State) : Result := copyByte (.reg .b) (.of (.mem .hl)) s

/-- LD B,A (R181). -/
def execLdBA (s : State) : Result := copyByte (.reg .b) (.of (.reg .a)) s

/-- LD C,B (R181). -/
def execLdCB (s : State) : Result := copyByte (.reg .c) (.of (.reg .b)) s

/-- LD C,C (R181). -/
def execLdCC (s : State) : Result := copyByte (.reg .c) (.of (.reg .c)) s

/-- LD C,D (R181). -/
def execLdCD (s : State) : Result := copyByte (.reg .c) (.of (.reg .d)) s

/-- LD C,E (R181). -/
def execLdCE (s : State) : Result := copyByte (.reg .c) (.of (.reg .e)) s

/-- LD C,H (R181). -/
def execLdCH (s : State) : Result := copyByte (.reg .c) (.of (.reg .h)) s

/-- LD C,L (R181). -/
def execLdCL (s : State) : Result := copyByte (.reg .c) (.of (.reg .l)) s

/-- LD C,(HL) (R182). -/
def execLdCMemHl (s : State) : Result := copyByte (.reg .c) (.of (.mem .hl)) s

/-- LD C,A (R181). -/
def execLdCA (s : State) : Result := copyByte (.reg .c) (.of (.reg .a)) s

/-- LD D,B (R181). -/
def execLdDB (s : State) : Result := copyByte (.reg .d) (.of (.reg .b)) s

/-- LD D,C (R181). -/
def execLdDC (s : State) : Result := copyByte (.reg .d) (.of (.reg .c)) s

/-- LD D,D (R181). -/
def execLdDD (s : State) : Result := copyByte (.reg .d) (.of (.reg .d)) s

/-- LD D,E (R181). -/
def execLdDE (s : State) : Result := copyByte (.reg .d) (.of (.reg .e)) s

/-- LD D,H (R181). -/
def execLdDH (s : State) : Result := copyByte (.reg .d) (.of (.reg .h)) s

/-- LD D,L (R181). -/
def execLdDL (s : State) : Result := copyByte (.reg .d) (.of (.reg .l)) s

/-- LD D,(HL) (R182). -/
def execLdDMemHl (s : State) : Result := copyByte (.reg .d) (.of (.mem .hl)) s

/-- LD D,A (R181). -/
def execLdDA (s : State) : Result := copyByte (.reg .d) (.of (.reg .a)) s

/-- LD E,B (R181). -/
def execLdEB (s : State) : Result := copyByte (.reg .e) (.of (.reg .b)) s

/-- LD E,C (R181). -/
def execLdEC (s : State) : Result := copyByte (.reg .e) (.of (.reg .c)) s

/-- LD E,D (R181). -/
def execLdED (s : State) : Result := copyByte (.reg .e) (.of (.reg .d)) s

/-- LD E,E (R181). -/
def execLdEE (s : State) : Result := copyByte (.reg .e) (.of (.reg .e)) s

/-- LD E,H (R181). -/
def execLdEH (s : State) : Result := copyByte (.reg .e) (.of (.reg .h)) s

/-- LD E,L (R181). -/
def execLdEL (s : State) : Result := copyByte (.reg .e) (.of (.reg .l)) s

/-- LD E,(HL) (R182). -/
def execLdEMemHl (s : State) : Result := copyByte (.reg .e) (.of (.mem .hl)) s

/-- LD E,A (R181). -/
def execLdEA (s : State) : Result := copyByte (.reg .e) (.of (.reg .a)) s

/-- LD H,B (R181). -/
def execLdHB (s : State) : Result := copyByte (.reg .h) (.of (.reg .b)) s

/-- LD H,C (R181). -/
def execLdHC (s : State) : Result := copyByte (.reg .h) (.of (.reg .c)) s

/-- LD H,D (R181). -/
def execLdHD (s : State) : Result := copyByte (.reg .h) (.of (.reg .d)) s

/-- LD H,E (R181). -/
def execLdHE (s : State) : Result := copyByte (.reg .h) (.of (.reg .e)) s

/-- LD H,H (R181). -/
def execLdHH (s : State) : Result := copyByte (.reg .h) (.of (.reg .h)) s

/-- LD H,L (R181). -/
def execLdHL (s : State) : Result := copyByte (.reg .h) (.of (.reg .l)) s

/-- LD H,(HL) (R182). -/
def execLdHMemHl (s : State) : Result := copyByte (.reg .h) (.of (.mem .hl)) s

/-- LD H,A (R181). -/
def execLdHA (s : State) : Result := copyByte (.reg .h) (.of (.reg .a)) s

/-- LD L,B (R181). -/
def execLdLB (s : State) : Result := copyByte (.reg .l) (.of (.reg .b)) s

/-- LD L,C (R181). -/
def execLdLC (s : State) : Result := copyByte (.reg .l) (.of (.reg .c)) s

/-- LD L,D (R181). -/
def execLdLD (s : State) : Result := copyByte (.reg .l) (.of (.reg .d)) s

/-- LD L,E (R181). -/
def execLdLE (s : State) : Result := copyByte (.reg .l) (.of (.reg .e)) s

/-- LD L,H (R181). -/
def execLdLH (s : State) : Result := copyByte (.reg .l) (.of (.reg .h)) s

/-- LD L,L (R181). -/
def execLdLL (s : State) : Result := copyByte (.reg .l) (.of (.reg .l)) s

/-- LD L,(HL) (R182). -/
def execLdLMemHl (s : State) : Result := copyByte (.reg .l) (.of (.mem .hl)) s

/-- LD L,A (R181). -/
def execLdLA (s : State) : Result := copyByte (.reg .l) (.of (.reg .a)) s

/-- LD (HL),B (R183). -/
def execLdMemHlB (s : State) : Result := copyByte (.mem .hl) (.of (.reg .b)) s

/-- LD (HL),C (R183). -/
def execLdMemHlC (s : State) : Result := copyByte (.mem .hl) (.of (.reg .c)) s

/-- LD (HL),D (R183). -/
def execLdMemHlD (s : State) : Result := copyByte (.mem .hl) (.of (.reg .d)) s

/-- LD (HL),E (R183). -/
def execLdMemHlE (s : State) : Result := copyByte (.mem .hl) (.of (.reg .e)) s

/-- LD (HL),H (R183). -/
def execLdMemHlH (s : State) : Result := copyByte (.mem .hl) (.of (.reg .h)) s

/-- LD (HL),L (R183). -/
def execLdMemHlL (s : State) : Result := copyByte (.mem .hl) (.of (.reg .l)) s

/-- LD (HL),A (R183). -/
def execLdMemHlA (s : State) : Result := copyByte (.mem .hl) (.of (.reg .a)) s

/-- LD A,B (R181). -/
def execLdAB (s : State) : Result := copyByte (.reg .a) (.of (.reg .b)) s

/-- LD A,C (R181). -/
def execLdAC (s : State) : Result := copyByte (.reg .a) (.of (.reg .c)) s

/-- LD A,D (R181). -/
def execLdAD (s : State) : Result := copyByte (.reg .a) (.of (.reg .d)) s

/-- LD A,E (R181). -/
def execLdAE (s : State) : Result := copyByte (.reg .a) (.of (.reg .e)) s

/-- LD A,H (R181). -/
def execLdAH (s : State) : Result := copyByte (.reg .a) (.of (.reg .h)) s

/-- LD A,L (R181). -/
def execLdAL (s : State) : Result := copyByte (.reg .a) (.of (.reg .l)) s

/-- LD A,(HL) (R182). -/
def execLdAMemHl (s : State) : Result := copyByte (.reg .a) (.of (.mem .hl)) s

/-- LD A,A (R181). -/
def execLdAA (s : State) : Result := copyByte (.reg .a) (.of (.reg .a)) s

/-- LDH (a8),A (R194). -/
def execLdhMemA8A (a8 : Byte) (s : State) : Result := copyByte (.fastImm a8) (.of (.reg .a)) s

/-- LD (C),A (R196). -/
def execLdMemCA (s : State) : Result := copyByte .fastC (.of (.reg .a)) s

/-- LD (a16),A (R198). -/
def execLdMemA16A (a16 : Word) (s : State) : Result := copyByte (.memAbs a16) (.of (.reg .a)) s

/-- LDH A,(a8) (R195). -/
def execLdhAMemA8 (a8 : Byte) (s : State) : Result := copyByte (.reg .a) (.of (.fastImm a8)) s

/-- LD A,(C) (R197). -/
def execLdAMemC (s : State) : Result := copyByte (.reg .a) (.of .fastC) s

/-- LD SP,HL (R201). -/
def execLdSpHl (s : State) : Result := copyShort .sp (.of (.pair .hl)) s

/-- LD A,(a16) (R199). -/
def execLdAMemA16 (a16 : Word) (s : State) : Result := copyByte (.reg .a) (.of (.memAbs a16)) s

end Sys2Proof.Machine
end

