-- ==== Sys2Proof/Machine/Stack.lean ====
section
/-! DEFINITION. PUSH and POP (45_stack.md). -/

namespace Sys2Proof.Machine

/-- PUSH of a pair (45_stack.md R215). -/
def pushPair (p : Pair) (s : State) : Result := .next (s.push (s.pair p))

/-- POP into a pair; for AF all eight bits of F are written (45_stack.md R216, R217). -/
def popPair (p : Pair) (s : State) : Result :=
  let (v, s) := s.pop
  .next (s.setPair p v)

/-- POP BC (R217). -/
def execPopBc (s : State) : Result := popPair .bc s

/-- PUSH BC (R215). -/
def execPushBc (s : State) : Result := pushPair .bc s

/-- POP DE (R217). -/
def execPopDe (s : State) : Result := popPair .de s

/-- PUSH DE (R215). -/
def execPushDe (s : State) : Result := pushPair .de s

/-- POP HL (R217). -/
def execPopHl (s : State) : Result := popPair .hl s

/-- PUSH HL (R215). -/
def execPushHl (s : State) : Result := pushPair .hl s

/-- POP AF (R216). -/
def execPopAf (s : State) : Result := popPair .af s

/-- PUSH AF (R215). -/
def execPushAf (s : State) : Result := pushPair .af s

end Sys2Proof.Machine
end

