-- ==== Sys2Proof/WellFormed.lean ====
section
/-! DEFINITION. What a well-formed input of the block is.

An instruction has nothing to check: its operands are constructors and its immediates are bit vectors
of exactly the width the format gives them (30_encoding.md R82, R84, R85, R96), so a register without a
code, a bit index above 7 or an immediate that does not fit cannot be written down (log 17). The one
input that can be ill-formed is the image of the Bootstrap transaction. -/

namespace Sys2Proof

/-- Every instruction is well-formed (log 17). -/
abbrev Instr.WellFormed (_ : Instr) : Prop := True

/-- A Bootstrap image has at most 65536 bytes (70_reset_and_hazards.md R293). -/
def imageWellFormed (image : List Byte) : Bool := decide (image.length ≤ kaoboy.memSize)

end Sys2Proof
end

