-- ==== Sys2Proof/Decode.lean ====
section
/-! DEFINITION. Decoding and encoding (30_encoding.md). The two opcode tables are the parameter
OPCODE_MAP of 00_scope.md R6, one row per row of opcode_table.json; the encoder is written beside them,
from the same rules, and uses neither table. -/

namespace Sys2Proof

/-- What the standard table assigns to an opcode byte: the instruction, with what the format says of its
immediate (30_encoding.md R82). -/
inductive Entry where
  /-- Format OP: no immediate. -/
  | plain (i : Instr)
  /-- Formats OP_D8 and OP_R8: one immediate byte follows. -/
  | imm8 (k : Byte → Instr)
  /-- Format OP_D16: an immediate short follows. -/
  | imm16 (k : Word → Instr)

/-- The standard table, bytes 0x00 to 0x1F (30_encoding.md R92). -/
def standardRows0 : List (Byte × Entry) := [
  (0x01, .imm16 .ldBcD16),
  (0x02, .plain .ldMemBcA),
  (0x03, .plain .incBc),
  (0x04, .plain .incB),
  (0x05, .plain .decB),
  (0x06, .imm8 .ldBD8),
  (0x07, .plain .rlca),
  (0x0A, .plain .ldAMemBc),
  (0x0B, .plain .decBc),
  (0x0C, .plain .incC),
  (0x0D, .plain .decC),
  (0x0E, .imm8 .ldCD8),
  (0x11, .imm16 .ldDeD16),
  (0x12, .plain .ldMemDeA),
  (0x13, .plain .incDe),
  (0x14, .plain .incD),
  (0x15, .plain .decD),
  (0x16, .imm8 .ldDD8),
  (0x17, .plain .rla),
  (0x18, .imm8 .jrR8),
  (0x1A, .plain .ldAMemDe),
  (0x1B, .plain .decDe),
  (0x1C, .plain .incE),
  (0x1D, .plain .decE),
  (0x1E, .imm8 .ldED8)]

/-- The standard table, bytes 0x20 to 0x3F (30_encoding.md R92). -/
def standardRows1 : List (Byte × Entry) := [
  (0x20, .imm8 .jrNzR8),
  (0x21, .imm16 .ldHlD16),
  (0x22, .plain .ldMemHlIncA),
  (0x23, .plain .incHl),
  (0x24, .plain .incH),
  (0x25, .plain .decH),
  (0x26, .imm8 .ldHD8),
  (0x28, .imm8 .jrZR8),
  (0x2A, .plain .ldAMemHlInc),
  (0x2B, .plain .decHl),
  (0x2C, .plain .incL),
  (0x2D, .plain .decL),
  (0x2E, .imm8 .ldLD8),
  (0x30, .imm8 .jrNcR8),
  (0x31, .imm16 .ldSpD16),
  (0x32, .plain .ldMemHlDecA),
  (0x33, .plain .incSp),
  (0x34, .plain .incMemHl),
  (0x35, .plain .decMemHl),
  (0x36, .imm8 .ldMemHlD8),
  (0x38, .imm8 .jrCR8),
  (0x3A, .plain .ldAMemHlDec),
  (0x3B, .plain .decSp),
  (0x3C, .plain .incA),
  (0x3D, .plain .decA),
  (0x3E, .imm8 .ldAD8)]

/-- The standard table, bytes 0x40 to 0x5F (30_encoding.md R92). -/
def standardRows2 : List (Byte × Entry) := [
  (0x40, .plain .ldBB),
  (0x41, .plain .ldBC),
  (0x42, .plain .ldBD),
  (0x43, .plain .ldBE),
  (0x44, .plain .ldBH),
  (0x45, .plain .ldBL),
  (0x46, .plain .ldBMemHl),
  (0x47, .plain .ldBA),
  (0x48, .plain .ldCB),
  (0x49, .plain .ldCC),
  (0x4A, .plain .ldCD),
  (0x4B, .plain .ldCE),
  (0x4C, .plain .ldCH),
  (0x4D, .plain .ldCL),
  (0x4E, .plain .ldCMemHl),
  (0x4F, .plain .ldCA),
  (0x50, .plain .ldDB),
  (0x51, .plain .ldDC),
  (0x52, .plain .ldDD),
  (0x53, .plain .ldDE),
  (0x54, .plain .ldDH),
  (0x55, .plain .ldDL),
  (0x56, .plain .ldDMemHl),
  (0x57, .plain .ldDA),
  (0x58, .plain .ldEB),
  (0x59, .plain .ldEC),
  (0x5A, .plain .ldED),
  (0x5B, .plain .ldEE),
  (0x5C, .plain .ldEH),
  (0x5D, .plain .ldEL),
  (0x5E, .plain .ldEMemHl),
  (0x5F, .plain .ldEA)]

/-- The standard table, bytes 0x60 to 0x7F (30_encoding.md R92). -/
def standardRows3 : List (Byte × Entry) := [
  (0x60, .plain .ldHB),
  (0x61, .plain .ldHC),
  (0x62, .plain .ldHD),
  (0x63, .plain .ldHE),
  (0x64, .plain .ldHH),
  (0x65, .plain .ldHL),
  (0x66, .plain .ldHMemHl),
  (0x67, .plain .ldHA),
  (0x68, .plain .ldLB),
  (0x69, .plain .ldLC),
  (0x6A, .plain .ldLD),
  (0x6B, .plain .ldLE),
  (0x6C, .plain .ldLH),
  (0x6D, .plain .ldLL),
  (0x6E, .plain .ldLMemHl),
  (0x6F, .plain .ldLA),
  (0x70, .plain .ldMemHlB),
  (0x71, .plain .ldMemHlC),
  (0x72, .plain .ldMemHlD),
  (0x73, .plain .ldMemHlE),
  (0x74, .plain .ldMemHlH),
  (0x75, .plain .ldMemHlL),
  (0x77, .plain .ldMemHlA),
  (0x78, .plain .ldAB),
  (0x79, .plain .ldAC),
  (0x7A, .plain .ldAD),
  (0x7B, .plain .ldAE),
  (0x7C, .plain .ldAH),
  (0x7D, .plain .ldAL),
  (0x7E, .plain .ldAMemHl),
  (0x7F, .plain .ldAA)]

/-- The standard table, bytes 0x80 to 0xBF (30_encoding.md R92). -/
def standardRows4 : List (Byte × Entry) := [
  (0x80, .plain .addAB),
  (0x81, .plain .addAC),
  (0x82, .plain .addAD),
  (0x83, .plain .addAE),
  (0x84, .plain .addAH),
  (0x85, .plain .addAL),
  (0x86, .plain .addAMemHl),
  (0x87, .plain .addAA),
  (0x90, .plain .subB),
  (0x91, .plain .subC),
  (0x92, .plain .subD),
  (0x93, .plain .subE),
  (0x94, .plain .subH),
  (0x95, .plain .subL),
  (0x96, .plain .subMemHl),
  (0x97, .plain .subA),
  (0xA8, .plain .xorB),
  (0xA9, .plain .xorC),
  (0xAA, .plain .xorD),
  (0xAB, .plain .xorE),
  (0xAC, .plain .xorH),
  (0xAD, .plain .xorL),
  (0xAE, .plain .xorMemHl),
  (0xAF, .plain .xorA),
  (0xB8, .plain .cpB),
  (0xB9, .plain .cpC),
  (0xBA, .plain .cpD),
  (0xBB, .plain .cpE),
  (0xBC, .plain .cpH),
  (0xBD, .plain .cpL),
  (0xBE, .plain .cpMemHl),
  (0xBF, .plain .cpA)]

/-- The standard table, bytes 0xC0 to 0xFF (30_encoding.md R92). -/
def standardRows5 : List (Byte × Entry) := [
  (0xC0, .plain .retNz),
  (0xC1, .plain .popBc),
  (0xC4, .imm16 .callNzA16),
  (0xC5, .plain .pushBc),
  (0xC6, .imm8 .addAD8),
  (0xC8, .plain .retZ),
  (0xC9, .plain .ret),
  (0xCC, .imm16 .callZA16),
  (0xCD, .imm16 .callA16),
  (0xD0, .plain .retNc),
  (0xD1, .plain .popDe),
  (0xD4, .imm16 .callNcA16),
  (0xD5, .plain .pushDe),
  (0xD6, .imm8 .subD8),
  (0xD8, .plain .retC),
  (0xDC, .imm16 .callCA16),
  (0xE0, .imm8 .ldhMemA8A),
  (0xE1, .plain .popHl),
  (0xE2, .plain .ldMemCA),
  (0xE5, .plain .pushHl),
  (0xEA, .imm16 .ldMemA16A),
  (0xEE, .imm8 .xorD8),
  (0xF0, .imm8 .ldhAMemA8),
  (0xF1, .plain .popAf),
  (0xF2, .plain .ldAMemC),
  (0xF5, .plain .pushAf),
  (0xF9, .plain .ldSpHl),
  (0xFA, .imm16 .ldAMemA16),
  (0xFE, .imm8 .cpD8)]

/-- The extended table, bytes 0x00 to 0x3F (30_encoding.md R93). -/
def extendedRows0 : List (Byte × Instr) := [
  (0x00, .rlcB),
  (0x01, .rlcC),
  (0x02, .rlcD),
  (0x03, .rlcE),
  (0x04, .rlcH),
  (0x05, .rlcL),
  (0x06, .rlcMemHl),
  (0x07, .rlcA),
  (0x10, .rlB),
  (0x11, .rlC),
  (0x12, .rlD),
  (0x13, .rlE),
  (0x14, .rlH),
  (0x15, .rlL),
  (0x16, .rlMemHl),
  (0x17, .rlA)]

/-- The extended table, bytes 0x40 to 0x5F (30_encoding.md R93). -/
def extendedRows1 : List (Byte × Instr) := [
  (0x40, .bit0B),
  (0x41, .bit0C),
  (0x42, .bit0D),
  (0x43, .bit0E),
  (0x44, .bit0H),
  (0x45, .bit0L),
  (0x46, .bit0MemHl),
  (0x47, .bit0A),
  (0x48, .bit1B),
  (0x49, .bit1C),
  (0x4A, .bit1D),
  (0x4B, .bit1E),
  (0x4C, .bit1H),
  (0x4D, .bit1L),
  (0x4E, .bit1MemHl),
  (0x4F, .bit1A),
  (0x50, .bit2B),
  (0x51, .bit2C),
  (0x52, .bit2D),
  (0x53, .bit2E),
  (0x54, .bit2H),
  (0x55, .bit2L),
  (0x56, .bit2MemHl),
  (0x57, .bit2A),
  (0x58, .bit3B),
  (0x59, .bit3C),
  (0x5A, .bit3D),
  (0x5B, .bit3E),
  (0x5C, .bit3H),
  (0x5D, .bit3L),
  (0x5E, .bit3MemHl),
  (0x5F, .bit3A)]

/-- The extended table, bytes 0x60 to 0x7F (30_encoding.md R93). -/
def extendedRows2 : List (Byte × Instr) := [
  (0x60, .bit4B),
  (0x61, .bit4C),
  (0x62, .bit4D),
  (0x63, .bit4E),
  (0x64, .bit4H),
  (0x65, .bit4L),
  (0x66, .bit4MemHl),
  (0x67, .bit4A),
  (0x68, .bit5B),
  (0x69, .bit5C),
  (0x6A, .bit5D),
  (0x6B, .bit5E),
  (0x6C, .bit5H),
  (0x6D, .bit5L),
  (0x6E, .bit5MemHl),
  (0x6F, .bit5A),
  (0x70, .bit6B),
  (0x71, .bit6C),
  (0x72, .bit6D),
  (0x73, .bit6E),
  (0x74, .bit6H),
  (0x75, .bit6L),
  (0x76, .bit6MemHl),
  (0x77, .bit6A),
  (0x78, .bit7B),
  (0x79, .bit7C),
  (0x7A, .bit7D),
  (0x7B, .bit7E),
  (0x7C, .bit7H),
  (0x7D, .bit7L),
  (0x7E, .bit7MemHl),
  (0x7F, .bit7A)]

/-- The standard table (30_encoding.md R92): 175 rows. -/
def standardTable : List (Byte × Entry) :=
  standardRows0 ++ standardRows1 ++ standardRows2 ++ standardRows3 ++ standardRows4 ++ standardRows5

/-- The extended table (30_encoding.md R93): 80 rows. -/
def extendedTable : List (Byte × Instr) :=
  extendedRows0 ++ extendedRows1 ++ extendedRows2

/-- The two tables, the parameter OPCODE_MAP (00_scope.md R6). -/
structure OpcodeMap where
  standard : List (Byte × Entry)
  extended : List (Byte × Instr)

/-- The opcode map of this hardware (30_encoding.md R92, R93).

UNVERIFIED, unsafe (log 3): all byte values but 0xCB, 0x3E, 0x06 and 0x80 are the spec's own, from
general knowledge (93_implementation_defined.md G1). -/
def opcodeMap : OpcodeMap where
  standard := standardTable
  extended := extendedTable

/-- What the standard table assigns to a byte, if anything (30_encoding.md R81, 90_conflicts.md C2). -/
def lookupStandard (b : Byte) : Option Entry := opcodeMap.standard.lookup b

/-- What the extended table assigns to a byte, if anything (30_encoding.md R81, R94). -/
def lookupExtended (b : Byte) : Option Instr := opcodeMap.extended.lookup b

/-- Why a list of bytes is not an instruction. -/
inductive DecodeError where
  /-- The list ends inside an instruction. The machine never sees this: memory has no end (20_memory.md
  R71). -/
  | truncated
  /-- The byte is unassigned in the table (30_encoding.md R100, R101). -/
  | unassigned (table : OpTable) (byte : Byte)
  deriving DecidableEq, Repr

/-- Give an entry of the standard table its immediate bytes (30_encoding.md R82, R84, R85, R96). -/
def completeEntry (e : Entry) (rest : List Byte) : Except DecodeError (Instr × List Byte) :=
  match e, rest with
  | .plain i, rest => .ok (i, rest)
  | .imm8 k, v :: rest => .ok (k v, rest)
  | .imm16 k, v :: w :: rest => .ok (k (joinShort kaoboy.shortOrder v w), rest)
  | .imm8 _, [] => .error .truncated
  | .imm16 _, [] => .error .truncated
  | .imm16 _, [_] => .error .truncated

/-- Decode the instruction at the head of a list of bytes; the result holds the bytes after it
(30_encoding.md R81, R82). -/
def decode (bytes : List Byte) : Except DecodeError (Instr × List Byte) :=
  match bytes with
  | [] => .error .truncated
  | b0 :: rest =>
    if b0 = kaoboy.prefixByte then
      match rest with
      | [] => .error .truncated
      | b1 :: rest =>
        match lookupExtended b1 with
        | some i => .ok (i, rest)
        | none => .error (.unassigned .extended b1)
    else
      match lookupStandard b0 with
      | some e => completeEntry e rest
      | none => .error (.unassigned .standard b0)

/-- Format OP (30_encoding.md R82). -/
def encodeOp (opcode : Byte) : List Byte := [opcode]

/-- Formats OP_D8 and OP_R8 (30_encoding.md R82). -/
def encodeOpImm8 (opcode v : Byte) : List Byte := [opcode, v]

/-- Format OP_D16: byte 1 is bits 15:8 of the immediate, byte 2 bits 7:0 (30_encoding.md R82, R96;
20_memory.md R54). -/
def encodeOpImm16 (opcode : Byte) (v : Word) : List Byte :=
  [opcode, firstByte kaoboy.shortOrder v, secondByte kaoboy.shortOrder v]

/-- Format CB_OP (30_encoding.md R82, R94). -/
def encodeExtended (opcode : Byte) : List Byte := [kaoboy.prefixByte, opcode]

/-- The bytes of an instruction (30_encoding.md R82, R92, R93). -/
def encode : Instr → List Byte
  | .ldBcD16 d16 => encodeOpImm16 0x01 d16
  | .ldMemBcA => encodeOp 0x02
  | .incBc => encodeOp 0x03
  | .incB => encodeOp 0x04
  | .decB => encodeOp 0x05
  | .ldBD8 d8 => encodeOpImm8 0x06 d8
  | .rlca => encodeOp 0x07
  | .ldAMemBc => encodeOp 0x0A
  | .decBc => encodeOp 0x0B
  | .incC => encodeOp 0x0C
  | .decC => encodeOp 0x0D
  | .ldCD8 d8 => encodeOpImm8 0x0E d8
  | .ldDeD16 d16 => encodeOpImm16 0x11 d16
  | .ldMemDeA => encodeOp 0x12
  | .incDe => encodeOp 0x13
  | .incD => encodeOp 0x14
  | .decD => encodeOp 0x15
  | .ldDD8 d8 => encodeOpImm8 0x16 d8
  | .rla => encodeOp 0x17
  | .jrR8 r8 => encodeOpImm8 0x18 r8
  | .ldAMemDe => encodeOp 0x1A
  | .decDe => encodeOp 0x1B
  | .incE => encodeOp 0x1C
  | .decE => encodeOp 0x1D
  | .ldED8 d8 => encodeOpImm8 0x1E d8
  | .jrNzR8 r8 => encodeOpImm8 0x20 r8
  | .ldHlD16 d16 => encodeOpImm16 0x21 d16
  | .ldMemHlIncA => encodeOp 0x22
  | .incHl => encodeOp 0x23
  | .incH => encodeOp 0x24
  | .decH => encodeOp 0x25
  | .ldHD8 d8 => encodeOpImm8 0x26 d8
  | .jrZR8 r8 => encodeOpImm8 0x28 r8
  | .ldAMemHlInc => encodeOp 0x2A
  | .decHl => encodeOp 0x2B
  | .incL => encodeOp 0x2C
  | .decL => encodeOp 0x2D
  | .ldLD8 d8 => encodeOpImm8 0x2E d8
  | .jrNcR8 r8 => encodeOpImm8 0x30 r8
  | .ldSpD16 d16 => encodeOpImm16 0x31 d16
  | .ldMemHlDecA => encodeOp 0x32
  | .incSp => encodeOp 0x33
  | .incMemHl => encodeOp 0x34
  | .decMemHl => encodeOp 0x35
  | .ldMemHlD8 d8 => encodeOpImm8 0x36 d8
  | .jrCR8 r8 => encodeOpImm8 0x38 r8
  | .ldAMemHlDec => encodeOp 0x3A
  | .decSp => encodeOp 0x3B
  | .incA => encodeOp 0x3C
  | .decA => encodeOp 0x3D
  | .ldAD8 d8 => encodeOpImm8 0x3E d8
  | .ldBB => encodeOp 0x40
  | .ldBC => encodeOp 0x41
  | .ldBD => encodeOp 0x42
  | .ldBE => encodeOp 0x43
  | .ldBH => encodeOp 0x44
  | .ldBL => encodeOp 0x45
  | .ldBMemHl => encodeOp 0x46
  | .ldBA => encodeOp 0x47
  | .ldCB => encodeOp 0x48
  | .ldCC => encodeOp 0x49
  | .ldCD => encodeOp 0x4A
  | .ldCE => encodeOp 0x4B
  | .ldCH => encodeOp 0x4C
  | .ldCL => encodeOp 0x4D
  | .ldCMemHl => encodeOp 0x4E
  | .ldCA => encodeOp 0x4F
  | .ldDB => encodeOp 0x50
  | .ldDC => encodeOp 0x51
  | .ldDD => encodeOp 0x52
  | .ldDE => encodeOp 0x53
  | .ldDH => encodeOp 0x54
  | .ldDL => encodeOp 0x55
  | .ldDMemHl => encodeOp 0x56
  | .ldDA => encodeOp 0x57
  | .ldEB => encodeOp 0x58
  | .ldEC => encodeOp 0x59
  | .ldED => encodeOp 0x5A
  | .ldEE => encodeOp 0x5B
  | .ldEH => encodeOp 0x5C
  | .ldEL => encodeOp 0x5D
  | .ldEMemHl => encodeOp 0x5E
  | .ldEA => encodeOp 0x5F
  | .ldHB => encodeOp 0x60
  | .ldHC => encodeOp 0x61
  | .ldHD => encodeOp 0x62
  | .ldHE => encodeOp 0x63
  | .ldHH => encodeOp 0x64
  | .ldHL => encodeOp 0x65
  | .ldHMemHl => encodeOp 0x66
  | .ldHA => encodeOp 0x67
  | .ldLB => encodeOp 0x68
  | .ldLC => encodeOp 0x69
  | .ldLD => encodeOp 0x6A
  | .ldLE => encodeOp 0x6B
  | .ldLH => encodeOp 0x6C
  | .ldLL => encodeOp 0x6D
  | .ldLMemHl => encodeOp 0x6E
  | .ldLA => encodeOp 0x6F
  | .ldMemHlB => encodeOp 0x70
  | .ldMemHlC => encodeOp 0x71
  | .ldMemHlD => encodeOp 0x72
  | .ldMemHlE => encodeOp 0x73
  | .ldMemHlH => encodeOp 0x74
  | .ldMemHlL => encodeOp 0x75
  | .ldMemHlA => encodeOp 0x77
  | .ldAB => encodeOp 0x78
  | .ldAC => encodeOp 0x79
  | .ldAD => encodeOp 0x7A
  | .ldAE => encodeOp 0x7B
  | .ldAH => encodeOp 0x7C
  | .ldAL => encodeOp 0x7D
  | .ldAMemHl => encodeOp 0x7E
  | .ldAA => encodeOp 0x7F
  | .addAB => encodeOp 0x80
  | .addAC => encodeOp 0x81
  | .addAD => encodeOp 0x82
  | .addAE => encodeOp 0x83
  | .addAH => encodeOp 0x84
  | .addAL => encodeOp 0x85
  | .addAMemHl => encodeOp 0x86
  | .addAA => encodeOp 0x87
  | .subB => encodeOp 0x90
  | .subC => encodeOp 0x91
  | .subD => encodeOp 0x92
  | .subE => encodeOp 0x93
  | .subH => encodeOp 0x94
  | .subL => encodeOp 0x95
  | .subMemHl => encodeOp 0x96
  | .subA => encodeOp 0x97
  | .xorB => encodeOp 0xA8
  | .xorC => encodeOp 0xA9
  | .xorD => encodeOp 0xAA
  | .xorE => encodeOp 0xAB
  | .xorH => encodeOp 0xAC
  | .xorL => encodeOp 0xAD
  | .xorMemHl => encodeOp 0xAE
  | .xorA => encodeOp 0xAF
  | .cpB => encodeOp 0xB8
  | .cpC => encodeOp 0xB9
  | .cpD => encodeOp 0xBA
  | .cpE => encodeOp 0xBB
  | .cpH => encodeOp 0xBC
  | .cpL => encodeOp 0xBD
  | .cpMemHl => encodeOp 0xBE
  | .cpA => encodeOp 0xBF
  | .retNz => encodeOp 0xC0
  | .popBc => encodeOp 0xC1
  | .callNzA16 a16 => encodeOpImm16 0xC4 a16
  | .pushBc => encodeOp 0xC5
  | .addAD8 d8 => encodeOpImm8 0xC6 d8
  | .retZ => encodeOp 0xC8
  | .ret => encodeOp 0xC9
  | .callZA16 a16 => encodeOpImm16 0xCC a16
  | .callA16 a16 => encodeOpImm16 0xCD a16
  | .retNc => encodeOp 0xD0
  | .popDe => encodeOp 0xD1
  | .callNcA16 a16 => encodeOpImm16 0xD4 a16
  | .pushDe => encodeOp 0xD5
  | .subD8 d8 => encodeOpImm8 0xD6 d8
  | .retC => encodeOp 0xD8
  | .callCA16 a16 => encodeOpImm16 0xDC a16
  | .ldhMemA8A a8 => encodeOpImm8 0xE0 a8
  | .popHl => encodeOp 0xE1
  | .ldMemCA => encodeOp 0xE2
  | .pushHl => encodeOp 0xE5
  | .ldMemA16A a16 => encodeOpImm16 0xEA a16
  | .xorD8 d8 => encodeOpImm8 0xEE d8
  | .ldhAMemA8 a8 => encodeOpImm8 0xF0 a8
  | .popAf => encodeOp 0xF1
  | .ldAMemC => encodeOp 0xF2
  | .pushAf => encodeOp 0xF5
  | .ldSpHl => encodeOp 0xF9
  | .ldAMemA16 a16 => encodeOpImm16 0xFA a16
  | .cpD8 d8 => encodeOpImm8 0xFE d8
  | .rlcB => encodeExtended 0x00
  | .rlcC => encodeExtended 0x01
  | .rlcD => encodeExtended 0x02
  | .rlcE => encodeExtended 0x03
  | .rlcH => encodeExtended 0x04
  | .rlcL => encodeExtended 0x05
  | .rlcMemHl => encodeExtended 0x06
  | .rlcA => encodeExtended 0x07
  | .rlB => encodeExtended 0x10
  | .rlC => encodeExtended 0x11
  | .rlD => encodeExtended 0x12
  | .rlE => encodeExtended 0x13
  | .rlH => encodeExtended 0x14
  | .rlL => encodeExtended 0x15
  | .rlMemHl => encodeExtended 0x16
  | .rlA => encodeExtended 0x17
  | .bit0B => encodeExtended 0x40
  | .bit0C => encodeExtended 0x41
  | .bit0D => encodeExtended 0x42
  | .bit0E => encodeExtended 0x43
  | .bit0H => encodeExtended 0x44
  | .bit0L => encodeExtended 0x45
  | .bit0MemHl => encodeExtended 0x46
  | .bit0A => encodeExtended 0x47
  | .bit1B => encodeExtended 0x48
  | .bit1C => encodeExtended 0x49
  | .bit1D => encodeExtended 0x4A
  | .bit1E => encodeExtended 0x4B
  | .bit1H => encodeExtended 0x4C
  | .bit1L => encodeExtended 0x4D
  | .bit1MemHl => encodeExtended 0x4E
  | .bit1A => encodeExtended 0x4F
  | .bit2B => encodeExtended 0x50
  | .bit2C => encodeExtended 0x51
  | .bit2D => encodeExtended 0x52
  | .bit2E => encodeExtended 0x53
  | .bit2H => encodeExtended 0x54
  | .bit2L => encodeExtended 0x55
  | .bit2MemHl => encodeExtended 0x56
  | .bit2A => encodeExtended 0x57
  | .bit3B => encodeExtended 0x58
  | .bit3C => encodeExtended 0x59
  | .bit3D => encodeExtended 0x5A
  | .bit3E => encodeExtended 0x5B
  | .bit3H => encodeExtended 0x5C
  | .bit3L => encodeExtended 0x5D
  | .bit3MemHl => encodeExtended 0x5E
  | .bit3A => encodeExtended 0x5F
  | .bit4B => encodeExtended 0x60
  | .bit4C => encodeExtended 0x61
  | .bit4D => encodeExtended 0x62
  | .bit4E => encodeExtended 0x63
  | .bit4H => encodeExtended 0x64
  | .bit4L => encodeExtended 0x65
  | .bit4MemHl => encodeExtended 0x66
  | .bit4A => encodeExtended 0x67
  | .bit5B => encodeExtended 0x68
  | .bit5C => encodeExtended 0x69
  | .bit5D => encodeExtended 0x6A
  | .bit5E => encodeExtended 0x6B
  | .bit5H => encodeExtended 0x6C
  | .bit5L => encodeExtended 0x6D
  | .bit5MemHl => encodeExtended 0x6E
  | .bit5A => encodeExtended 0x6F
  | .bit6B => encodeExtended 0x70
  | .bit6C => encodeExtended 0x71
  | .bit6D => encodeExtended 0x72
  | .bit6E => encodeExtended 0x73
  | .bit6H => encodeExtended 0x74
  | .bit6L => encodeExtended 0x75
  | .bit6MemHl => encodeExtended 0x76
  | .bit6A => encodeExtended 0x77
  | .bit7B => encodeExtended 0x78
  | .bit7C => encodeExtended 0x79
  | .bit7D => encodeExtended 0x7A
  | .bit7E => encodeExtended 0x7B
  | .bit7H => encodeExtended 0x7C
  | .bit7L => encodeExtended 0x7D
  | .bit7MemHl => encodeExtended 0x7E
  | .bit7A => encodeExtended 0x7F

/-- The bits of an opcode-table word as the block's memory would hold them: three bytes, the longest an
instruction can be (30_encoding.md R82), zero where the table gives the row no bits.

DESIGN CHOICE, safe (log 9): a 16-bit word whose bits 15:8 are the prefix is a CB_OP row, whose byte 0
is in bits 15:8 (30_encoding.md R83); in any other word byte 0 is in bits 7:0. -/
def tableBytes (nbits w : Nat) : List Byte :=
  let v := w % 2 ^ nbits
  let b0 : Byte := BitVec.ofNat 8 v
  let b1 : Byte := BitVec.ofNat 8 (v / 2 ^ 8)
  let b2 : Byte := BitVec.ofNat 8 (v / 2 ^ 16)
  if nbits = 16 ∧ b1 = kaoboy.prefixByte then [b1, b0, 0] else [b0, b1, b2]

/-- The instruction the decoder reads from an opcode-table word (log 9). -/
def decodeTableWord (nbits w : Nat) : Option Instr :=
  match decode (tableBytes nbits w) with
  | .ok (i, _) => some i
  | .error _ => none

end Sys2Proof
end

