-- ==== Sys2Proof/Machine/Fetch.lean ====
section
/-! DEFINITION. The fetch and decode half of the Step transaction (30_encoding.md R81), byte by byte with
`Fetch8()` and `Fetch16()`. All bytes of an instruction are fetched before its meaning runs, so `pc` is
past the instruction there (20_memory.md R68, 10_state.md R32; log 8). -/

namespace Sys2Proof.Machine

/-- What a fetch finds, with the state the fetches leave. -/
inductive Fetched where
  /-- An instruction with its immediates. -/
  | instr (i : Instr) (s : State)
  /-- A byte its table does not assign. -/
  | unknown (table : OpTable) (byte : Byte) (s : State)
  deriving DecidableEq, Repr

/-- Fetch the immediate bytes of an entry of the standard table (30_encoding.md R82, R84, R85, R96). -/
def fetchImmediates (e : Entry) (s : State) : Fetched :=
  match e with
  | .plain i => .instr i s
  | .imm8 k =>
    let (v, s) := s.fetch8
    .instr (k v) s
  | .imm16 k =>
    let (v, s) := s.fetch16
    .instr (k v) s

/-- Fetch and decode one instruction (30_encoding.md R81). -/
def fetchInstr (s : State) : Fetched :=
  let (b0, s) := s.fetch8
  if b0 = kaoboy.prefixByte then
    let (b1, s) := s.fetch8
    match lookupExtended b1 with
    | some i => .instr i s
    | none => .unknown .extended b1 s
  else
    match lookupStandard b0 with
    | some e => fetchImmediates e s
    | none => .unknown .standard b0 s

/-- The three bytes at `pc`, as many as the longest instruction has (30_encoding.md R82). -/
def State.window (s : State) : List Byte :=
  [s.read8 s.pc, s.read8 (s.pc + 1), s.read8 (s.pc + 2)]

/-- Put bytes at `a` and upward, the address wrapping (20_memory.md R71). -/
def Memory.place (m : Memory) (a : Word) (bytes : List Byte) : Memory :=
  match bytes with
  | [] => m
  | b :: rest => Memory.place (m.write a b) (a + 1) rest

/-- The state in which the next step fetches the instruction of an opcode-table word: its bytes stand at
`pc`, as Bootstrap would have put them there, and the fault latch is clear (log 10). -/
def placeTableWord (s : State) (nbits w : Nat) : State :=
  { s with mem := s.mem.place s.pc (tableBytes nbits w), fault := none }

end Sys2Proof.Machine
end

