-- ==== Sys2Proof/Machine/Step.lean ====
section
/-! DEFINITION. The Step transaction (30_encoding.md R81, 60_exceptions.md R260, R261). -/

namespace Sys2Proof.Machine

/-- Step: with the latch clear, fetch and decode, then run the instruction's meaning or take the
exception; with the latch set there is no step (60_exceptions.md R261; log 5). -/
def step (s : State) : Host.Outcome State Fault Refusal :=
  match s.fault with
  | some info => .fault (.stepWhileFaulted info.table info.byte)
  | none =>
    match fetchInstr s with
    | .instr i s => exec i s
    | .unknown table byte s => .next (s.raiseUnknown table byte)

/-- `s` with the instruction of an opcode-table word where `step` fetches next (log 10). -/
def State.withFetchWord (s : State) (nbits w : Nat) : State := placeTableWord s nbits w

end Sys2Proof.Machine
end

