-- ==== Sys2Proof/Machine/Video.lean ====
section
/-! DEFINITION. The video timing machine: the budgets, the exits of the modes, and the Tick transaction
with its render events (50_video_timing.md). -/

namespace Sys2Proof.Machine

/-- `budget(mode)` in cycles (50_video_timing.md R231). -/
def budget : VideoMode → Nat
  | .oamScan => kaoboy.budgetOam
  | .pixelTransfer => kaoboy.budgetTransfer
  | .hBlank => kaoboy.budgetHBlank
  | .vBlank => kaoboy.budgetVBlankLine

/-- The output events (50_video_timing.md R244). -/
inductive RenderEvent where
  /-- `RenderScanline(line)`, at the exit of PixelTransfer. -/
  | scanline (line : Nat)
  /-- `RenderFrame`, when VBlank is entered from HBlank. -/
  | frame
  deriving DecidableEq, Repr

/-- The exit function of the active mode: it decides the next mode, may count the line, and emits the
events (50_video_timing.md R234, R235, R237, R244). -/
def exitMode (v : Video) : Video × List RenderEvent :=
  match v.mode with
  | .oamScan => ({ v with mode := .pixelTransfer }, [])
  | .pixelTransfer => ({ v with mode := .hBlank }, [.scanline v.line])
  | .hBlank =>
    if v.line + 1 = kaoboy.visibleLines then
      ({ v with mode := .vBlank, line := v.line + 1 }, [.frame])
    else ({ v with mode := .oamScan, line := v.line + 1 }, [])
  | .vBlank =>
    if v.line + 1 = kaoboy.totalLines then ({ v with mode := .oamScan, line := 0 }, [])
    else ({ v with mode := .vBlank, line := v.line + 1 }, [])

/-- Leave the active mode and enter the next one with its full budget (50_video_timing.md R236). -/
def nextMode (v : Video) : Video × List RenderEvent :=
  let (w, events) := exitMode v
  ({ w with remaining := budget w.mode }, events)

/-- The loop of `Tick(n)` (50_video_timing.md R236). `fuel` bounds the passes: every pass but a first
one from `remaining = 0`, which no run reaches, takes at least one cycle (R238), so `n + 1` passes are
always enough (log 14). -/
def tickLoop : Nat → Nat → Video → Video × List RenderEvent
  | 0, n, v => ({ v with remaining := v.remaining - n }, [])
  | fuel + 1, n, v =>
    if n < v.remaining then ({ v with remaining := v.remaining - n }, [])
    else
      let (w, events) := nextMode v
      let (u, more) := tickLoop fuel (n - v.remaining) w
      (u, events ++ more)

/-- `Tick(n)` on the video timing machine, with the events it emits in their order (50_video_timing.md
R236, R244, R245). -/
def tickVideo (n : Nat) (v : Video) : Video × List RenderEvent := tickLoop (n + 1) n v

/-- The Tick transaction: it reads and writes nothing but the video timing machine (50_video_timing.md
R246). -/
def tick (n : Nat) (s : State) : State × List RenderEvent :=
  let (v, events) := tickVideo n s.video
  ({ s with video := v }, events)

end Sys2Proof.Machine
end

