-- ==== Sys2Proof/Machine/Transactions.lean ====
section
/-! DEFINITION. The interface of the block: the four transactions of the host and its writes between
transactions (70_reset_and_hazards.md R290 to R296). `step` alone is the CPU; `transact` is the whole
block with the host as its input (log 4). -/

namespace Sys2Proof.Machine

/-- What the host may write between transactions (70_reset_and_hazards.md R296; log 13). A flag is
written through F. -/
inductive HostWrite where
  | reg (r : ByteReg) (v : Byte)
  | sp (v : Word)
  | pc (v : Word)
  | mem (a : Word) (v : Byte)
  deriving DecidableEq, Repr

/-- What the host can do (70_reset_and_hazards.md R291, R296). -/
inductive Transaction where
  /-- Reset (R290). -/
  | reset
  /-- Bootstrap(image) (R293). -/
  | bootstrap (image : List Byte)
  /-- Step (30_encoding.md R81). -/
  | step
  /-- Tick(n) (50_video_timing.md R236). -/
  | tick (n : Nat)
  /-- A host write between transactions (R296). -/
  | write (w : HostWrite)
  deriving DecidableEq, Repr

/-- The block as the host sees it: its state, and whether a Step has been issued since Reset, which
decides whether Bootstrap may be issued (70_reset_and_hazards.md R291; log 12). -/
structure Block where
  core : State
  stepped : Bool
  deriving DecidableEq, Repr

/-- The block after Reset (70_reset_and_hazards.md R290). -/
def Block.reset : Block := { core := State.reset, stepped := false }

/-- `Bootstrap(image)` on the state: the image is copied to address 0 upward and nothing else changes
(70_reset_and_hazards.md R293). -/
def bootstrap (image : List Byte) (s : State) : State := { s with mem := s.mem.place 0 image }

/-- One host write (70_reset_and_hazards.md R296). -/
def hostWrite (w : HostWrite) (s : State) : State :=
  match w with
  | .reg r v => s.setReg r v
  | .sp v => s.setSp v
  | .pc v => s.setPc v
  | .mem a v => s.write8 a v

/-- One transaction, with the render events it emits (70_reset_and_hazards.md R291). A second Bootstrap
before the first Step is performed like the first (log 11). -/
def transact (t : Transaction) (k : Block) :
    Host.Outcome (Block × List RenderEvent) Fault Refusal :=
  match t with
  | .reset => .next (Block.reset, [])
  | .bootstrap image =>
    if k.stepped then .refused .bootstrapAfterStep
    else if imageWellFormed image then
      .next ({ k with core := bootstrap image k.core }, [])
    else .refused .imageTooLong
  | .step =>
    match step k.core with
    | .next s => .next ({ core := s, stepped := true }, [])
    | .fault r => .fault r
    | .refused r => .refused r
  | .tick n =>
    let (s, events) := tick n k.core
    .next ({ k with core := s }, events)
  | .write w => .next ({ k with core := hostWrite w k.core }, [])

end Sys2Proof.Machine
end

