-- ==== Sys2Proof/Safety.lean ====
section
/-! DEFINITION. What a good state and a safe run are, in the terms claims use. -/

namespace Sys2Proof.Machine

/-- The invariants of the video timing machine between transactions (50_video_timing.md R240, R241). -/
structure Video.Inv (v : Video) : Prop where
  /-- `1 <= remaining` (R240). -/
  remaining_pos : 1 ≤ v.remaining
  /-- `remaining <= budget(mode)` (R240). -/
  remaining_le : v.remaining ≤ budget v.mode
  /-- `line <= 153` (R241). -/
  line_lt : v.line < kaoboy.totalLines
  /-- `mode = VBlank` exactly when `144 <= line` (R241). -/
  vBlank_iff : v.mode = .vBlank ↔ kaoboy.visibleLines ≤ v.line

/-- The invariant of the block: memory is canonical (log 7) and the video timing machine meets its
invariants. -/
structure State.Inv (s : State) : Prop where
  mem_wf : s.mem.wf
  video_inv : s.video.Inv

/-- F before and after a flag write: bits 7 to 4 of the new value are the flags Z, N, H, C, and bits 3 to 0
are kept (10_state.md R25, R26). -/
structure FlagsWritten (before after : Byte) (z n h c : Bool) : Prop where
  zero : after.getLsbD 7 = z
  subtract : after.getLsbD 6 = n
  halfCarry : after.getLsbD 5 = h
  carry : after.getLsbD 4 = c
  low : after.extractLsb' 0 4 = before.extractLsb' 0 4

/-- The next `n` steps all run an instruction: the latch is clear at the start and after each of them.
A fault is never a proper end of a run (60_exceptions.md R261, 70_reset_and_hazards.md R297). -/
def safeFor : Nat → State → Bool
  | 0, s => !s.faulted
  | n + 1, s =>
    !s.faulted &&
      match step s with
      | .next t => safeFor n t
      | .fault _ => false
      | .refused _ => false

end Sys2Proof.Machine
end

