-- ==== Sys2Proof/Certificates/Slice0/Obligations.lean ====
section
/-! DEFINITION. The statements for the provers: first the words they are written in, then one
`def Obligations.<Name> : Prop` each. An instruction is named by its form (`Form.instr`), so that a
statement about `Form.addReg r` for every `r` is about ADD A,B to ADD A,A (Laws/Form.lean shows that the
forms leave no instruction out). `exec` runs with `pc` past the instruction's bytes
(`Obligations.StepRunsDecodedInstruction`). -/

namespace Sys2Proof.Claims

open Sys2Proof.Machine

/-- The bytes are exactly one instruction, `i`, whatever bytes follow. -/
def DecodesAs (bytes : List Byte) (i : Instr) : Prop :=
  ∀ rest : List Byte, decode (bytes ++ rest) = .ok (i, rest)

/-- Every byte register is as before but those listed. -/
def RegsKept (s t : State) (changed : List ByteReg) : Prop :=
  ∀ q : ByteReg, q ∉ changed → t.reg q = s.reg q

/-- Every byte of memory is as before. -/
def MemKept (s t : State) : Prop := ∀ x : Word, t.read8 x = s.read8 x

/-- The video timing machine and the fault latch are as before. -/
def RestKept (s t : State) : Prop := t.video = s.video ∧ t.fault = s.fault

/-- Nothing changed but the listed byte registers. -/
def OnlyRegs (s t : State) (changed : List ByteReg) : Prop :=
  RegsKept s t changed ∧ t.sp = s.sp ∧ t.pc = s.pc ∧ MemKept s t ∧ RestKept s t

/-- Nothing changed but the byte at `a` and the listed byte registers. -/
def OnlyByte (s t : State) (a : Word) (changed : List ByteReg) : Prop :=
  RegsKept s t changed ∧ t.sp = s.sp ∧ t.pc = s.pc ∧
    (∀ x : Word, x ≠ a → t.read8 x = s.read8 x) ∧ RestKept s t

/-- Nothing changed but the stack pointer. -/
def OnlySp (s t : State) : Prop :=
  RegsKept s t [] ∧ t.pc = s.pc ∧ MemKept s t ∧ RestKept s t

/-- The short `v` stands below `s.sp`, its high byte first, and every other byte is as in `s`. -/
def PushedShort (s t : State) (hi lo : Byte) : Prop :=
  t.sp = s.sp - 2 ∧ t.read8 (s.sp - 2) = hi ∧ t.read8 (s.sp - 1) = lo ∧
    ∀ x : Word, x ≠ s.sp - 2 → x ≠ s.sp - 1 → t.read8 x = s.read8 x

/-- 43_jump_call_return.md R165, on the bits of F (10_state.md R25). -/
def condHolds (f : Byte) : Cond → Bool
  | .nz => !f.getLsbD 7
  | .z => f.getLsbD 7
  | .nc => !f.getLsbD 4
  | .c => f.getLsbD 4

/-- 30_encoding.md R85. -/
def signedByte (d : Byte) : Int := if d.toNat < 128 then d.toNat else (d.toNat : Int) - 256

/-- The 80 unassigned bytes of the standard table (30_encoding.md R100). -/
def unassignedStandard : List Byte := [
  0x00, 0x08, 0x09, 0x0F, 0x10, 0x19, 0x1F, 0x27, 0x29, 0x2F, 0x37, 0x39, 0x3F, 0x76,
  0x88, 0x89, 0x8A, 0x8B, 0x8C, 0x8D, 0x8E, 0x8F, 0x98, 0x99, 0x9A, 0x9B, 0x9C, 0x9D, 0x9E, 0x9F,
  0xA0, 0xA1, 0xA2, 0xA3, 0xA4, 0xA5, 0xA6, 0xA7, 0xB0, 0xB1, 0xB2, 0xB3, 0xB4, 0xB5, 0xB6, 0xB7,
  0xC2, 0xC3, 0xC7, 0xCA, 0xCE, 0xCF, 0xD2, 0xD3, 0xD7, 0xD9, 0xDA, 0xDB, 0xDD, 0xDE, 0xDF,
  0xE3, 0xE4, 0xE6, 0xE7, 0xE8, 0xE9, 0xEB, 0xEC, 0xED, 0xEF,
  0xF3, 0xF4, 0xF6, 0xF7, 0xF8, 0xFB, 0xFC, 0xFD, 0xFF]

/-- The 176 unassigned bytes of the extended table (30_encoding.md R101). -/
def unassignedExtended (b : Byte) : Bool :=
  decide (0x08 ≤ b.toNat ∧ b.toNat ≤ 0x0F ∨ 0x18 ≤ b.toNat ∧ b.toNat ≤ 0x3F ∨ 0x80 ≤ b.toNat)

/-- `i` adds `v` to A (40_arith_logic.md R111). -/
def AddsToA (i : Instr) (s : State) (v : Byte) : Prop :=
  ∃ t, exec i s = .next t ∧ t.a.toNat = (s.a.toNat + v.toNat) % 256 ∧
    FlagsWritten s.f t.f (decide (t.a.toNat = 0)) false
      (decide (s.a.toNat % 16 + v.toNat % 16 > 15)) (decide (s.a.toNat + v.toNat > 255)) ∧
    OnlyRegs s t [.a, .f]

/-- `i` subtracts `v` from A (40_arith_logic.md R112). -/
def SubtractsFromA (i : Instr) (s : State) (v : Byte) : Prop :=
  ∃ t, exec i s = .next t ∧
    t.a.toNat = (if v.toNat ≤ s.a.toNat then s.a.toNat - v.toNat else s.a.toNat + 256 - v.toNat) ∧
    FlagsWritten s.f t.f (decide (t.a.toNat = 0)) true
      (decide (v.toNat % 16 > s.a.toNat % 16)) (decide (v.toNat > s.a.toNat)) ∧
    OnlyRegs s t [.a, .f]

/-- `i` puts the exclusive or of A and `v` into A (40_arith_logic.md R113). -/
def XorsIntoA (i : Instr) (s : State) (v : Byte) : Prop :=
  ∃ t, exec i s = .next t ∧ (∀ n < 8, t.a.getLsbD n = (s.a.getLsbD n != v.getLsbD n)) ∧
    FlagsWritten s.f t.f (decide (t.a.toNat = 0)) false false false ∧ OnlyRegs s t [.a, .f]

/-- `i` compares A with `v` (40_arith_logic.md R114). -/
def ComparesA (i : Instr) (s : State) (v : Byte) : Prop :=
  ∃ t, exec i s = .next t ∧
    FlagsWritten s.f t.f (decide (s.a = v)) true
      (decide (v.toNat % 16 > s.a.toNat % 16)) (decide (s.a.toNat < v.toNat)) ∧
    OnlyRegs s t [.f]

/-- The flags of an increment of `v` that gives `res`: the carry flag is kept (41_inc_dec.md R130). -/
def IncFlags (s t : State) (v res : Byte) : Prop :=
  res.toNat = (v.toNat + 1) % 256 ∧
    FlagsWritten s.f t.f (decide (res.toNat = 0)) false (decide (v.toNat % 16 = 15)) (s.f.getLsbD 4)

/-- The flags of a decrement of `v` that gives `res`: the carry flag is kept (41_inc_dec.md R131). -/
def DecFlags (s t : State) (v res : Byte) : Prop :=
  res.toNat = (v.toNat + 255) % 256 ∧
    FlagsWritten s.f t.f (decide (res.toNat = 0)) true (decide (v.toNat % 16 = 0)) (s.f.getLsbD 4)

/-- `res` is `v` rotated left by one with `bit0` coming in, and the flags say so; `zero` is the zero
flag (42_bit_rotate.md R146, R147). -/
def RotatedLeft (s t : State) (v res : Byte) (bit0 zero : Bool) : Prop :=
  res.getLsbD 0 = bit0 ∧ (∀ n < 7, res.getLsbD (n + 1) = v.getLsbD n) ∧
    FlagsWritten s.f t.f zero false false (v.getLsbD 7)

/-- `i` tests bit `n` of `v` (42_bit_rotate.md R154). -/
def TestsBit (i : Instr) (s : State) (n : Fin 8) (v : Byte) : Prop :=
  ∃ t, exec i s = .next t ∧
    FlagsWritten s.f t.f (!v.getLsbD n) false true (s.f.getLsbD 4) ∧ OnlyRegs s t [.f]

/-- `i` loads the byte register `r` with `v` and changes nothing else. -/
def LoadsReg (i : Instr) (s : State) (r : ByteReg) (v : Byte) : Prop :=
  ∃ t, exec i s = .next t ∧ t.reg r = v ∧ OnlyRegs s t [r]

/-- `i` stores `v` at `a` and changes nothing else. -/
def StoresByte (i : Instr) (s : State) (a : Word) (v : Byte) : Prop :=
  ∃ t, exec i s = .next t ∧ t.read8 a = v ∧ OnlyByte s t a []

/-- `i` loads the stack pointer with `v` and changes nothing else. -/
def LoadsSp (i : Instr) (s : State) (v : Word) : Prop :=
  ∃ t, exec i s = .next t ∧ t.sp = v ∧ OnlySp s t

/-- `i` jumps by the signed displacement `d` when `taken` (43_jump_call_return.md R166). -/
def JumpsRelative (i : Instr) (s : State) (taken : Bool) (d : Byte) : Prop :=
  ∃ t, exec i s = .next t ∧
    (t.pc.toNat : Int) = (if taken then ((s.pc.toNat : Int) + signedByte d) % 65536 else s.pc.toNat) ∧
    RegsKept s t [] ∧ t.sp = s.sp ∧ MemKept s t ∧ RestKept s t

/-- `i` calls `a16` when `taken` (43_jump_call_return.md R168). -/
def Calls (i : Instr) (s : State) (taken : Bool) (a16 : Word) : Prop :=
  ∃ t, exec i s = .next t ∧ RegsKept s t [] ∧ RestKept s t ∧
    if taken then t.pc = a16 ∧ PushedShort s t (hiByte s.pc) (loByte s.pc)
    else t.pc = s.pc ∧ t.sp = s.sp ∧ MemKept s t

/-- `i` returns when `taken` (43_jump_call_return.md R170). -/
def Returns (i : Instr) (s : State) (taken : Bool) : Prop :=
  ∃ t, exec i s = .next t ∧ RegsKept s t [] ∧ RestKept s t ∧ MemKept s t ∧
    if taken then
      t.pc.toNat = (s.read8 s.sp).toNat * 256 + (s.read8 (s.sp + 1)).toNat ∧ t.sp = s.sp + 2
    else t.pc = s.pc ∧ t.sp = s.sp

/-- CALL a16, or CALL cc,a16 (43_jump_call_return.md R168, R169). -/
def callForm (a16 : Word) : Option Cond → Form
  | none => .call a16
  | some cc => .callCond cc a16

/-- RET, or RET cc (43_jump_call_return.md R170, R171). -/
def retForm : Option Cond → Form
  | none => .ret
  | some cc => .retCond cc

/-- The unconditional forms are always taken (43_jump_call_return.md R165). -/
def guardHolds (f : Byte) : Option Cond → Bool
  | none => true
  | some cc => condHolds f cc

/-- POP of any of the four pairs (45_stack.md R216, R217). -/
def popForm : Pair → Form
  | .bc => .pop .bc
  | .de => .pop .de
  | .hl => .pop .hl
  | .af => .popAf

/-- `i` pops into the pair `p` (45_stack.md R216, R217). -/
def PopsInto (i : Instr) (s : State) (p : Pair) : Prop :=
  ∃ t, exec i s = .next t ∧ t.reg (pairHi p) = s.read8 s.sp ∧
    t.reg (pairLo p) = s.read8 (s.sp + 1) ∧ t.sp = s.sp + 2 ∧
    RegsKept s t [pairHi p, pairLo p] ∧ t.pc = s.pc ∧ MemKept s t ∧ RestKept s t

/-- Where the video timing machine is `t` cycles after Reset (50_video_timing.md R242). -/
def videoAt (t : Nat) : Video :=
  let line := t / 456 % 154
  let c := t % 456
  if line < 144 then
    if c < 80 then { mode := .oamScan, remaining := 80 - c, line := line }
    else if c < 250 then { mode := .pixelTransfer, remaining := 250 - c, line := line }
    else { mode := .hBlank, remaining := 456 - c, line := line }
  else { mode := .vBlank, remaining := 456 - c, line := line }

end Sys2Proof.Claims

open Sys2Proof Sys2Proof.Machine Sys2Proof.Claims

/-! ### Encoding and decoding -/

/-- The decoder reads back every instruction the encoder writes, whatever bytes follow: no operand bit is
dropped (30_encoding.md R82, R92, R93, R105). -/
def Obligations.DecodeOfEncode : Prop :=
  ∀ (i : Instr) (rest : List Byte), i.WellFormed → decode (encode i ++ rest) = .ok (i, rest)

/-- What the decoder accepts is the encoding of what it answers: no two byte strings are one instruction
(30_encoding.md R103, R105). -/
def Obligations.EncodeOfDecode : Prop :=
  ∀ (bytes rest : List Byte) (i : Instr), decode bytes = .ok (i, rest) → bytes = encode i ++ rest

/-- The tables assign exactly the bytes 30_encoding.md R100 and R101 do not list, each once; the prefix
is in neither list and in neither table (R80, R94, R103). -/
def Obligations.TablesAssignAllButUnassigned : Prop :=
  (∀ b : Byte, lookupStandard b = none ↔ b ∈ unassignedStandard ∨ b = 0xCB) ∧
  (∀ b : Byte, lookupExtended b = none ↔ unassignedExtended b = true) ∧
  (standardTable.map Prod.fst).Nodup ∧ standardTable.length = 175 ∧
  (extendedTable.map Prod.fst).Nodup ∧ extendedTable.length = 80

/-- One word of each family, written out from its pattern in 30_encoding.md R92 and R93, with the fields
and codes of R83, R87 to R91. -/
def Obligations.SampleWordsDecode : Prop :=
  decode [0b10000010] = .ok (.addAD, []) ∧                    -- 10 000 sss, sss = 2 = D
  decode [0b10010111] = .ok (.subA, []) ∧                     -- 10 010 sss, sss = 7 = A
  decode [0b10101110] = .ok (.xorMemHl, []) ∧                 -- 10 101 110
  decode [0b11111110, 0x34] = .ok (.cpD8 0x34, []) ∧          -- 11 111 110, d8
  decode [0b00101100] = .ok (.incL, []) ∧                     -- 00 rrr 100, rrr = 5 = L
  decode [0b00011011] = .ok (.decDe, []) ∧                    -- 00 pp1 011, pp = 1 = DE
  decode [0b11001011, 0b01111100] = .ok (.bit7H, []) ∧        -- CB, 01 bbb rrr, bbb = 7, rrr = 4 = H
  decode [0b11001011, 0b00010001] = .ok (.rlC, []) ∧          -- CB, 00 010 rrr, rrr = 1 = C
  decode [0b00111000, 0xFB] = .ok (.jrCR8 0xFB, []) ∧         -- 00 1cc 000, cc = 3 = C
  decode [0b11000100, 0x12, 0x34] = .ok (.callNzA16 0x1234, []) ∧ -- 11 0cc 100, cc = 0 = NZ
  decode [0b11011000] = .ok (.retC, []) ∧                     -- 11 0cc 000, cc = 3 = C
  decode [0b01110011] = .ok (.ldMemHlE, []) ∧                 -- 01 110 sss, sss = 3 = E
  decode [0b00100001, 0x9F, 0xFF] = .ok (.ldHlD16 0x9FFF, []) ∧ -- 00 pp0 001, pp = 2 = HL
  decode [0b11110101] = .ok (.pushAf, []) ∧                   -- 11 pp0 101, pp = 3 = AF
  decode [0b11010001] = .ok (.popDe, [])                      -- 11 pp0 001, pp = 1 = DE

/-! ### The step -/

/-- With the latch clear and the bytes at `pc` an instruction, the step is the instruction's meaning on
the state whose `pc` is past its bytes (30_encoding.md R81, 10_state.md R32, R33). -/
def Obligations.StepRunsDecodedInstruction : Prop :=
  ∀ (s : State) (i : Instr) (rest : List Byte),
    s.fault = none → decode s.window = .ok (i, rest) → i.WellFormed →
      step s = exec i { s with pc := s.pc + BitVec.ofNat 16 i.length }

/-- An unassigned byte raises UnknownInstruction: the latch records the table and the byte (60_exceptions.md
R260; 30_encoding.md R100, R101). That `pc` is past the bytes fetched and nothing else changes is the last
part of R261, which the spec marks as its own decision D14. -/
def Obligations.UnassignedByteRaises : Prop :=
  ∀ s : State, s.fault = none →
    (s.read8 s.pc ∈ unassignedStandard →
      step s = .next { s with
        pc := s.pc + 1, fault := some { table := .standard, byte := s.read8 s.pc } }) ∧
    (s.read8 s.pc = 0xCB → unassignedExtended (s.read8 (s.pc + 1)) = true →
      step s = .next { s with
        pc := s.pc + 2, fault := some { table := .extended, byte := s.read8 (s.pc + 1) } })

/-- With the latch clear a step always completes, and it sets the latch in the two cases of
60_exceptions.md R260 and in no other (R262, R266). -/
def Obligations.OnlyUnassignedBytesFault : Prop :=
  ∀ s : State, s.fault = none →
    ∃ t, step s = .next t ∧
      (t.fault ≠ none ↔ s.read8 s.pc ∈ unassignedStandard ∨
        s.read8 s.pc = 0xCB ∧ unassignedExtended (s.read8 (s.pc + 1)) = true)

/-- While the latch is set there is no step, and no transaction but Reset clears it (60_exceptions.md
R261, 10_state.md R41). That the missing step is written as `Fault.stepWhileFaulted` is the model's
choice (log 5). -/
def Obligations.FaultIsTerminal : Prop :=
  (∀ (s : State) (info : FaultInfo), s.fault = some info →
    step s = .fault (.stepWhileFaulted info.table info.byte)) ∧
  (∀ (x : Transaction) (k k' : Block) (events : List RenderEvent) (info : FaultInfo),
    x ≠ .reset → transact x k = .next (k', events) → k.core.fault = some info →
      k'.core.fault = some info)

/-- Every instruction completes in every state, raises nothing and leaves the video timing machine alone
(60_exceptions.md R262, 50_video_timing.md R246). -/
def Obligations.EveryInstructionCompletes : Prop :=
  ∀ (i : Instr) (s : State), ∃ t, exec i s = .next t ∧ t.fault = s.fault ∧ t.video = s.video

/-- The instruction of an opcode-table word runs as the next step of `withFetchWord` (the model's own
interface to its fetch, log 9 and log 10). -/
def Obligations.PlacedWordRuns : Prop :=
  ∀ (s : State) (nbits w : Nat) (i : Instr), decodeTableWord nbits w = some i →
    step (s.withFetchWord nbits w) =
      exec i { s.withFetchWord nbits w with pc := s.pc + BitVec.ofNat 16 i.length }

/-- A store to the very next instruction is seen by its fetch: LD (HL),d8 at `pc` with HL on the byte
after it, storing the one-byte instruction `i`, is followed by `i` (20_memory.md R68,
70_reset_and_hazards.md R302). -/
def Obligations.StoreIsSeenByNextFetch : Prop :=
  ∀ (s : State) (i : Instr), s.fault = none → s.read8 s.pc = 0x36 → s.pair .hl = s.pc + 2 →
    DecodesAs [s.read8 (s.pc + 1)] i →
      ∃ t, step s = .next t ∧ t.pc = s.pc + 2 ∧ t.read8 t.pc = s.read8 (s.pc + 1) ∧
        step t = exec i { t with pc := t.pc + 1 }

/-! ### Invariants and Reset -/

/-- A step keeps memory canonical and the video timing machine within its bounds, from every state that
meets them (20_memory.md R51, 50_video_timing.md R240, R241, R246; log 7). -/
def Obligations.StepKeepsInvariant : Prop :=
  ∀ s t : State, s.Inv → step s = .next t → t.Inv

/-- Every transaction of the host keeps them too, Tick by any count included (50_video_timing.md R240,
R241; log 7). -/
def Obligations.TransactionsKeepInvariant : Prop :=
  ∀ (x : Transaction) (k k' : Block) (events : List RenderEvent),
    k.core.Inv → transact x k = .next (k', events) → k'.core.Inv

/-- The invariant holds after Reset, whatever the OPEN registers hold (10_state.md R45, 50_video_timing.md
R243); that memory is canonical there speaks of the model's own form of it (log 7). -/
def Obligations.ResetMeetsInvariant : Prop :=
  State.reset.Inv ∧ ∀ v : ResetValues, (State.resetWith v).Inv

/-- What Reset leaves, for every value of the OPEN registers (10_state.md R45, 70_reset_and_hazards.md
R290, 50_video_timing.md R243). -/
def Obligations.ResetLeaves : Prop :=
  ∀ v : ResetValues,
    let s := State.resetWith v
    (∀ a : Word, s.read8 a = 0x00) ∧ s.pc = 0x0000 ∧
    s.video.mode = .oamScan ∧ s.video.remaining = 80 ∧ s.video.line = 0 ∧ s.faulted = false ∧
    s.a = v.a ∧ s.b = v.b ∧ s.c = v.c ∧ s.d = v.d ∧ s.e = v.e ∧ s.f = v.f ∧ s.h = v.h ∧ s.l = v.l ∧
    s.sp = v.sp

/-- The Reset transaction may be issued at any time (70_reset_and_hazards.md R291); the values of A to L
and `sp` it leaves are the model's choice, zero (DESIGN CHOICE, log 1 and log 2). -/
def Obligations.ResetTransactionResets : Prop :=
  ∀ k : Block, transact .reset k = .next (Block.reset, []) ∧ Block.reset.stepped = false ∧
    Block.reset.core = State.resetWith
      { a := 0, b := 0, c := 0, d := 0, e := 0, f := 0, h := 0, l := 0, sp := 0 }

/-- Bootstrap copies its image to address 0 upward and changes nothing else; an image longer than memory,
and a Bootstrap after the first Step, are refused (70_reset_and_hazards.md R293). "After the first Step" is
the flag `Block.stepped` (log 12), which `Obligations.StepIsRecorded` ties to the Step transaction. That a
Bootstrap before the first Step may be repeated is the model's reading (log 11). -/
def Obligations.BootstrapCopiesImage : Prop :=
  ∀ (image : List Byte) (k : Block),
    if k.stepped then transact (.bootstrap image) k = .refused .bootstrapAfterStep
    else if 65536 < image.length then transact (.bootstrap image) k = .refused .imageTooLong
    else ∃ k', transact (.bootstrap image) k = .next (k', []) ∧ k'.stepped = false ∧
      (∀ x : Word, k'.core.read8 x = (image[x.toNat]?).getD (k.core.read8 x)) ∧
      k'.core = { k.core with mem := k'.core.mem }

/-- The Step transaction is `step`, and it alone records that a Step was issued: a completed one answers the
next state of `step` with `Block.stepped` set and no event, a stopped one stops as `step` does, no
transaction but Reset clears the flag, none but Step sets it, and once it is set Bootstrap is refused
(70_reset_and_hazards.md R291, R293). The flag is the model's own bookkeeping (log 12). -/
def Obligations.StepIsRecorded : Prop :=
  ∀ k : Block,
    (∀ (k' : Block) (events : List RenderEvent), transact .step k = .next (k', events) ↔
      step k.core = .next k'.core ∧ k'.stepped = true ∧ events = []) ∧
    (∀ r : Fault, transact .step k = .fault r ↔ step k.core = .fault r) ∧
    (∀ r : Refusal, transact .step k = .refused r ↔ step k.core = .refused r) ∧
    (∀ (x : Transaction) (k' : Block) (events : List RenderEvent),
      x ≠ .reset → x ≠ .step → transact x k = .next (k', events) → k'.stepped = k.stepped) ∧
    (∀ (image : List Byte) (k' : Block) (events : List RenderEvent),
      transact .step k = .next (k', events) →
        transact (.bootstrap image) k' = .refused .bootstrapAfterStep)

/-- The Tick transaction is `tick` on the state, with its events in their order; a host write writes
exactly the register, `sp`, `pc` or byte it names, emits nothing and changes nothing else
(70_reset_and_hazards.md R296, 50_video_timing.md R244, R246). What the host may write is the model's
reading of R296 (log 13). -/
def Obligations.TickAndHostWriteEffects : Prop :=
  ∀ k : Block,
    (∀ n : Nat, transact (.tick n) k =
      .next ({ k with core := (tick n k.core).1 }, (tick n k.core).2)) ∧
    (∀ (r : ByteReg) (v : Byte), ∃ t, transact (.write (.reg r v)) k = .next ({ k with core := t }, []) ∧
      t.reg r = v ∧ OnlyRegs k.core t [r]) ∧
    (∀ v : Word, ∃ t, transact (.write (.sp v)) k = .next ({ k with core := t }, []) ∧
      t.sp = v ∧ OnlySp k.core t) ∧
    (∀ v : Word, transact (.write (.pc v)) k =
      .next ({ k with core := { k.core with pc := v } }, [])) ∧
    (∀ (a : Word) (v : Byte), ∃ t, transact (.write (.mem a v)) k = .next ({ k with core := t }, []) ∧
      t.read8 a = v ∧ OnlyByte k.core t a [])

/-! ### Registers, memory and the stack -/

/-- A pair is a view of its two byte registers, high register first; writing it writes both halves and
no other register (10_state.md R22). -/
def Obligations.PairIsAView : Prop :=
  ∀ (s : State) (p : Pair) (v : Word),
    (s.pair p).toNat = (s.reg (pairHi p)).toNat * 256 + (s.reg (pairLo p)).toNat ∧
    ((s.setPair p v).reg (pairHi p)).toNat = v.toNat / 256 ∧
    ((s.setPair p v).reg (pairLo p)).toNat = v.toNat % 256 ∧
    OnlyRegs s (s.setPair p v) [pairHi p, pairLo p] ∧
    (pairHi .af = .a ∧ pairLo .af = .f ∧ pairHi .bc = .b ∧ pairLo .bc = .c ∧
      pairHi .de = .d ∧ pairLo .de = .e ∧ pairHi .hl = .h ∧ pairLo .hl = .l)

/-- Two canonical memories that read alike everywhere are the same data (log 7). -/
def Obligations.CanonicalMemoryIsUnique : Prop :=
  ∀ m m' : Memory, m.wf → m'.wf → (∀ a : Word, m.read a = m'.read a) → m = m'

/-- A 16-bit access is two byte accesses, the high byte at the lower address, the second address wrapping
(20_memory.md R52, R53, R54, R71). -/
def Obligations.ShortAccessIsHighFirst : Prop :=
  ∀ (s : State) (a v : Word),
    (s.read16 a).toNat = (s.read8 a).toNat * 256 + (s.read8 (a + 1)).toNat ∧
    ((s.write16 a v).read8 a).toNat = v.toNat / 256 ∧
    ((s.write16 a v).read8 (a + 1)).toNat = v.toNat % 256 ∧
    (∀ x : Word, x ≠ a → x ≠ a + 1 → (s.write16 a v).read8 x = s.read8 x) ∧
    (s.write16 a v).read16 a = v ∧
    s.write16 a v = { s with mem := (s.write16 a v).mem }

/-- `Fetch8()` and `Fetch16()` (20_memory.md R56, R57). -/
def Obligations.FetchAdvancesPc : Prop :=
  ∀ s : State,
    s.fetch8.1 = s.read8 s.pc ∧ s.fetch8.2 = { s with pc := s.pc + 1 } ∧
    s.fetch16.1.toNat = (s.read8 s.pc).toNat * 256 + (s.read8 (s.pc + 1)).toNat ∧
    s.fetch16.2 = { s with pc := s.pc + 2 }

/-- `Push(v)` and `Pop()`, and that a pop undoes a push for every value and every starting pointer
(20_memory.md R58, R59). -/
def Obligations.PopUndoesPush : Prop :=
  ∀ (s : State) (v : Word),
    PushedShort s (s.push v) (hiByte v) (loByte v) ∧
    s.push v = { s with sp := (s.push v).sp, mem := (s.push v).mem } ∧
    s.pop.1.toNat = (s.read8 s.sp).toNat * 256 + (s.read8 (s.sp + 1)).toNat ∧
    s.pop.2 = { s with sp := s.sp + 2 } ∧
    (s.push v).pop.1 = v ∧ (s.push v).pop.2.sp = s.sp

/-- The condition table (43_jump_call_return.md R165). -/
def Obligations.CondReadsFlags : Prop :=
  ∀ (s : State) (cc : Cond), s.cond cc = condHolds s.f cc

/-! ### Add, subtract, xor, compare (36 instructions) -/

/-- ADD A,r; ADD A,(HL); ADD A,d8 (40_arith_logic.md R115 to R117): constructors addAB addAC addAD addAE
addAH addAL addAA, addAMemHl, addAD8. -/
def Obligations.AddResult : Prop :=
  (∀ (r : OpReg) (s : State), DecodesAs [0x80 + r.code] (Form.addReg r).instr ∧
    AddsToA (Form.addReg r).instr s (s.reg r.byteReg)) ∧
  (∀ s : State, DecodesAs [0x86] Form.addHl.instr ∧
    AddsToA Form.addHl.instr s (s.read8 (s.pair .hl))) ∧
  (∀ (d8 : Byte) (s : State), DecodesAs [0xC6, d8] (Form.addImm d8).instr ∧
    AddsToA (Form.addImm d8).instr s d8)

/-- SUB r; SUB (HL); SUB d8 (40_arith_logic.md R118 to R120): constructors subB subC subD subE subH subL
subA, subMemHl, subD8. -/
def Obligations.SubResult : Prop :=
  (∀ (r : OpReg) (s : State), DecodesAs [0x90 + r.code] (Form.subReg r).instr ∧
    SubtractsFromA (Form.subReg r).instr s (s.reg r.byteReg)) ∧
  (∀ s : State, DecodesAs [0x96] Form.subHl.instr ∧
    SubtractsFromA Form.subHl.instr s (s.read8 (s.pair .hl))) ∧
  (∀ (d8 : Byte) (s : State), DecodesAs [0xD6, d8] (Form.subImm d8).instr ∧
    SubtractsFromA (Form.subImm d8).instr s d8)

/-- XOR r; XOR (HL); XOR d8 (40_arith_logic.md R121 to R123): constructors xorB xorC xorD xorE xorH xorL
xorA, xorMemHl, xorD8. -/
def Obligations.XorResult : Prop :=
  (∀ (r : OpReg) (s : State), DecodesAs [0xA8 + r.code] (Form.xorReg r).instr ∧
    XorsIntoA (Form.xorReg r).instr s (s.reg r.byteReg)) ∧
  (∀ s : State, DecodesAs [0xAE] Form.xorHl.instr ∧
    XorsIntoA Form.xorHl.instr s (s.read8 (s.pair .hl))) ∧
  (∀ (d8 : Byte) (s : State), DecodesAs [0xEE, d8] (Form.xorImm d8).instr ∧
    XorsIntoA (Form.xorImm d8).instr s d8)

/-- CP r; CP (HL); CP d8 (40_arith_logic.md R124 to R126): constructors cpB cpC cpD cpE cpH cpL cpA,
cpMemHl, cpD8. -/
def Obligations.CompareResult : Prop :=
  (∀ (r : OpReg) (s : State), DecodesAs [0xB8 + r.code] (Form.cpReg r).instr ∧
    ComparesA (Form.cpReg r).instr s (s.reg r.byteReg)) ∧
  (∀ s : State, DecodesAs [0xBE] Form.cpHl.instr ∧
    ComparesA Form.cpHl.instr s (s.read8 (s.pair .hl))) ∧
  (∀ (d8 : Byte) (s : State), DecodesAs [0xFE, d8] (Form.cpImm d8).instr ∧
    ComparesA (Form.cpImm d8).instr s d8)

/-! ### Increment and decrement (24 instructions) -/

/-- INC r; INC (HL) (41_inc_dec.md R132, R133): constructors incB incC incD incE incH incL incA,
incMemHl. -/
def Obligations.IncByteResult : Prop :=
  (∀ (r : OpReg) (s : State), DecodesAs [0x04 + 8 * r.code] (Form.incReg r).instr ∧
    ∃ t, exec (Form.incReg r).instr s = .next t ∧
      IncFlags s t (s.reg r.byteReg) (t.reg r.byteReg) ∧ OnlyRegs s t [r.byteReg, .f]) ∧
  (∀ s : State, DecodesAs [0x34] Form.incMem.instr ∧
    ∃ t, exec Form.incMem.instr s = .next t ∧
      IncFlags s t (s.read8 (s.pair .hl)) (t.read8 (s.pair .hl)) ∧ OnlyByte s t (s.pair .hl) [.f])

/-- DEC r; DEC (HL) (41_inc_dec.md R134, R135): constructors decB decC decD decE decH decL decA,
decMemHl. -/
def Obligations.DecByteResult : Prop :=
  (∀ (r : OpReg) (s : State), DecodesAs [0x05 + 8 * r.code] (Form.decReg r).instr ∧
    ∃ t, exec (Form.decReg r).instr s = .next t ∧
      DecFlags s t (s.reg r.byteReg) (t.reg r.byteReg) ∧ OnlyRegs s t [r.byteReg, .f]) ∧
  (∀ s : State, DecodesAs [0x35] Form.decMem.instr ∧
    ∃ t, exec Form.decMem.instr s = .next t ∧
      DecFlags s t (s.read8 (s.pair .hl)) (t.read8 (s.pair .hl)) ∧ OnlyByte s t (s.pair .hl) [.f])

/-- INC rr; INC SP: no flag is written (41_inc_dec.md R136, R138): constructors incBc incDe incHl,
incSp. -/
def Obligations.IncShortResult : Prop :=
  (∀ (p : OpPair) (s : State), DecodesAs [0x03 + 16 * p.code] (Form.incPair p).instr ∧
    ∃ t, exec (Form.incPair p).instr s = .next t ∧
      (t.pair p.pair).toNat = ((s.pair p.pair).toNat + 1) % 65536 ∧
      OnlyRegs s t [pairHi p.pair, pairLo p.pair]) ∧
  (∀ s : State, DecodesAs [0x33] Form.incSp.instr ∧
    ∃ t, exec Form.incSp.instr s = .next t ∧ t.sp.toNat = (s.sp.toNat + 1) % 65536 ∧ OnlySp s t)

/-- DEC rr; DEC SP: no flag is written (41_inc_dec.md R137, R139): constructors decBc decDe decHl,
decSp. -/
def Obligations.DecShortResult : Prop :=
  (∀ (p : OpPair) (s : State), DecodesAs [0x0B + 16 * p.code] (Form.decPair p).instr ∧
    ∃ t, exec (Form.decPair p).instr s = .next t ∧
      (t.pair p.pair).toNat = ((s.pair p.pair).toNat + 65535) % 65536 ∧
      OnlyRegs s t [pairHi p.pair, pairLo p.pair]) ∧
  (∀ s : State, DecodesAs [0x3B] Form.decSp.instr ∧
    ∃ t, exec Form.decSp.instr s = .next t ∧ t.sp.toNat = (s.sp.toNat + 65535) % 65536 ∧ OnlySp s t)

/-! ### Rotate and bit test (82 instructions) -/

/-- RLCA; RLA: the zero flag is cleared whatever the result (42_bit_rotate.md R148, R149): constructors
rlca, rla. -/
def Obligations.AccumulatorRotateResult : Prop :=
  (∀ s : State, DecodesAs [0x07] Form.rlca.instr ∧
    ∃ t, exec Form.rlca.instr s = .next t ∧
      RotatedLeft s t s.a t.a (s.a.getLsbD 7) false ∧ OnlyRegs s t [.a, .f]) ∧
  (∀ s : State, DecodesAs [0x17] Form.rla.instr ∧
    ∃ t, exec Form.rla.instr s = .next t ∧
      RotatedLeft s t s.a t.a (s.f.getLsbD 4) false ∧ OnlyRegs s t [.a, .f])

/-- RLC r; RLC (HL): the zero flag tells of the result (42_bit_rotate.md R150, R151): constructors rlcB
rlcC rlcD rlcE rlcH rlcL rlcA, rlcMemHl. -/
def Obligations.RotateCircularResult : Prop :=
  (∀ (r : OpReg) (s : State), DecodesAs [0xCB, 0x00 + r.code] (Form.rlcReg r).instr ∧
    ∃ t, exec (Form.rlcReg r).instr s = .next t ∧
      RotatedLeft s t (s.reg r.byteReg) (t.reg r.byteReg) ((s.reg r.byteReg).getLsbD 7)
        (decide ((t.reg r.byteReg).toNat = 0)) ∧ OnlyRegs s t [r.byteReg, .f]) ∧
  (∀ s : State, DecodesAs [0xCB, 0x06] Form.rlcHl.instr ∧
    ∃ t, exec Form.rlcHl.instr s = .next t ∧
      RotatedLeft s t (s.read8 (s.pair .hl)) (t.read8 (s.pair .hl))
        ((s.read8 (s.pair .hl)).getLsbD 7) (decide ((t.read8 (s.pair .hl)).toNat = 0)) ∧
      OnlyByte s t (s.pair .hl) [.f])

/-- RL r; RL (HL): the old carry comes in, the zero flag tells of the result (42_bit_rotate.md R152,
R153): constructors rlB rlC rlD rlE rlH rlL rlA, rlMemHl. -/
def Obligations.RotateThroughCarryResult : Prop :=
  (∀ (r : OpReg) (s : State), DecodesAs [0xCB, 0x10 + r.code] (Form.rlReg r).instr ∧
    ∃ t, exec (Form.rlReg r).instr s = .next t ∧
      RotatedLeft s t (s.reg r.byteReg) (t.reg r.byteReg) (s.f.getLsbD 4)
        (decide ((t.reg r.byteReg).toNat = 0)) ∧ OnlyRegs s t [r.byteReg, .f]) ∧
  (∀ s : State, DecodesAs [0xCB, 0x16] Form.rlHl.instr ∧
    ∃ t, exec Form.rlHl.instr s = .next t ∧
      RotatedLeft s t (s.read8 (s.pair .hl)) (t.read8 (s.pair .hl)) (s.f.getLsbD 4)
        (decide ((t.read8 (s.pair .hl)).toNat = 0)) ∧ OnlyByte s t (s.pair .hl) [.f])

/-- BIT b,r; BIT b,(HL) (42_bit_rotate.md R155, R156): constructors bit0B to bit7A, for each bit 0 to 7
the registers B C D E H L A and MemHl. -/
def Obligations.BitTestResult : Prop :=
  (∀ (n : Fin 8) (r : OpReg) (s : State),
    DecodesAs [0xCB, 0x40 + 8 * BitVec.ofNat 8 n + r.code] (Form.bitReg n r).instr ∧
    TestsBit (Form.bitReg n r).instr s n (s.reg r.byteReg)) ∧
  (∀ (n : Fin 8) (s : State),
    DecodesAs [0xCB, 0x46 + 8 * BitVec.ofNat 8 n] (Form.bitHl n).instr ∧
    TestsBit (Form.bitHl n).instr s n (s.read8 (s.pair .hl)))

/-! ### Jump, call, return (15 instructions) -/

/-- JR r8; JR cc,r8 (43_jump_call_return.md R166, R167): constructors jrR8, jrNzR8 jrZR8 jrNcR8
jrCR8. -/
def Obligations.JumpRelativeResult : Prop :=
  (∀ (d : Byte) (s : State), DecodesAs [0x18, d] (Form.jr d).instr ∧
    JumpsRelative (Form.jr d).instr s true d) ∧
  (∀ (cc : Cond) (d : Byte) (s : State),
    DecodesAs [0x20 + 8 * cc.code, d] (Form.jrCond cc d).instr ∧
    JumpsRelative (Form.jrCond cc d).instr s (condHolds s.f cc) d)

/-- CALL a16; CALL cc,a16 (43_jump_call_return.md R168, R169): constructors callA16, callNzA16 callZA16
callNcA16 callCA16. -/
def Obligations.CallResult : Prop :=
  (∀ (hi lo : Byte) (s : State), DecodesAs [0xCD, hi, lo] (Form.call (joinBytes hi lo)).instr ∧
    Calls (Form.call (joinBytes hi lo)).instr s true (joinBytes hi lo)) ∧
  (∀ (cc : Cond) (hi lo : Byte) (s : State),
    DecodesAs [0xC4 + 8 * cc.code, hi, lo] (Form.callCond cc (joinBytes hi lo)).instr ∧
    Calls (Form.callCond cc (joinBytes hi lo)).instr s (condHolds s.f cc) (joinBytes hi lo))

/-- RET; RET cc (43_jump_call_return.md R170, R171): constructors ret, retNz retZ retNc retC. -/
def Obligations.ReturnResult : Prop :=
  (∀ s : State, DecodesAs [0xC9] Form.ret.instr ∧ Returns Form.ret.instr s true) ∧
  (∀ (cc : Cond) (s : State), DecodesAs [0xC0 + 8 * cc.code] (Form.retCond cc).instr ∧
    Returns (Form.retCond cc).instr s (condHolds s.f cc))

/-- A taken return at the target of a taken call comes back to the instruction after the call, with the
stack pointer and the registers as they were and no byte of memory changed but the two pushed
(43_jump_call_return.md R168 to R171, R173): every call (callA16, callNzA16 callZA16 callNcA16 callCA16)
with every return (ret, retNz retZ retNc retC). -/
def Obligations.ReturnUndoesCall : Prop :=
  ∀ (call back : Option Cond) (a16 : Word) (s : State),
    guardHolds s.f call = true → guardHolds s.f back = true →
      ∃ t u, exec (callForm a16 call).instr s = .next t ∧ t.pc = a16 ∧
        exec (retForm back).instr t = .next u ∧ u.pc = s.pc ∧ u.sp = s.sp ∧
        RegsKept s u [] ∧ RestKept s u ∧
        ∀ x : Word, x ≠ s.sp - 2 → x ≠ s.sp - 1 → u.read8 x = s.read8 x

/-! ### Loads and stores (90 instructions) -/

/-- LD r,r' (44_load.md R181): the 49 constructors ldBB to ldAA. -/
def Obligations.LoadRegisterFromRegister : Prop :=
  ∀ (dst src : OpReg) (s : State),
    DecodesAs [0x40 + 8 * dst.code + src.code] (Form.ldReg dst src).instr ∧
    LoadsReg (Form.ldReg dst src).instr s dst.byteReg (s.reg src.byteReg)

/-- LD r,(HL); LD r,d8 (44_load.md R182, R184): constructors ldBMemHl ldCMemHl ldDMemHl ldEMemHl ldHMemHl
ldLMemHl ldAMemHl, ldBD8 ldCD8 ldDD8 ldED8 ldHD8 ldLD8 ldAD8. The address is that of the old HL. -/
def Obligations.LoadRegisterFromMemoryOrImmediate : Prop :=
  (∀ (dst : OpReg) (s : State), DecodesAs [0x46 + 8 * dst.code] (Form.ldRegHl dst).instr ∧
    LoadsReg (Form.ldRegHl dst).instr s dst.byteReg (s.read8 (s.pair .hl))) ∧
  (∀ (dst : OpReg) (d8 : Byte) (s : State),
    DecodesAs [0x06 + 8 * dst.code, d8] (Form.ldRegImm dst d8).instr ∧
    LoadsReg (Form.ldRegImm dst d8).instr s dst.byteReg d8)

/-- LD (HL),r; LD (HL),d8 (44_load.md R183, R185): constructors ldMemHlB ldMemHlC ldMemHlD ldMemHlE
ldMemHlH ldMemHlL ldMemHlA, ldMemHlD8. -/
def Obligations.StoreThroughHl : Prop :=
  (∀ (src : OpReg) (s : State), DecodesAs [0x70 + src.code] (Form.ldHlReg src).instr ∧
    StoresByte (Form.ldHlReg src).instr s (s.pair .hl) (s.reg src.byteReg)) ∧
  (∀ (d8 : Byte) (s : State), DecodesAs [0x36, d8] (Form.ldHlImm d8).instr ∧
    StoresByte (Form.ldHlImm d8).instr s (s.pair .hl) d8)

/-- LD A,(BC); LD A,(DE); LD (BC),A; LD (DE),A (44_load.md R186 to R189): constructors ldAMemBc,
ldAMemDe, ldMemBcA, ldMemDeA. -/
def Obligations.IndirectThroughBcDe : Prop :=
  ∀ s : State,
    (DecodesAs [0x0A] Form.ldABc.instr ∧ LoadsReg Form.ldABc.instr s .a (s.read8 (s.pair .bc))) ∧
    (DecodesAs [0x1A] Form.ldADe.instr ∧ LoadsReg Form.ldADe.instr s .a (s.read8 (s.pair .de))) ∧
    (DecodesAs [0x02] Form.ldBcA.instr ∧ StoresByte Form.ldBcA.instr s (s.pair .bc) s.a) ∧
    (DecodesAs [0x12] Form.ldDeA.instr ∧ StoresByte Form.ldDeA.instr s (s.pair .de) s.a)

/-- LD (HL+),A; LD (HL-),A: the store is at the old HL (44_load.md R190, R191): constructors ldMemHlIncA,
ldMemHlDecA. -/
def Obligations.AutoIndexStore : Prop :=
  ∀ s : State,
    (DecodesAs [0x22] Form.ldHlIncA.instr ∧ ∃ t, exec Form.ldHlIncA.instr s = .next t ∧
      t.read8 (s.pair .hl) = s.a ∧ (t.pair .hl).toNat = ((s.pair .hl).toNat + 1) % 65536 ∧
      OnlyByte s t (s.pair .hl) [.h, .l]) ∧
    (DecodesAs [0x32] Form.ldHlDecA.instr ∧ ∃ t, exec Form.ldHlDecA.instr s = .next t ∧
      t.read8 (s.pair .hl) = s.a ∧ (t.pair .hl).toNat = ((s.pair .hl).toNat + 65535) % 65536 ∧
      OnlyByte s t (s.pair .hl) [.h, .l])

/-- LD A,(HL+); LD A,(HL-): the load is from the old HL (44_load.md R192, R193): constructors ldAMemHlInc,
ldAMemHlDec. -/
def Obligations.AutoIndexLoad : Prop :=
  ∀ s : State,
    (DecodesAs [0x2A] Form.ldAHlInc.instr ∧ ∃ t, exec Form.ldAHlInc.instr s = .next t ∧
      t.a = s.read8 (s.pair .hl) ∧ (t.pair .hl).toNat = ((s.pair .hl).toNat + 1) % 65536 ∧
      OnlyRegs s t [.a, .h, .l]) ∧
    (DecodesAs [0x3A] Form.ldAHlDec.instr ∧ ∃ t, exec Form.ldAHlDec.instr s = .next t ∧
      t.a = s.read8 (s.pair .hl) ∧ (t.pair .hl).toNat = ((s.pair .hl).toNat + 65535) % 65536 ∧
      OnlyRegs s t [.a, .h, .l])

/-- LDH (a8),A; LDH A,(a8); LD (C),A; LD A,(C) (44_load.md R194 to R197): constructors ldhMemA8A,
ldhAMemA8, ldMemCA, ldAMemC. -/
def Obligations.FastPageLoadsAndStores : Prop :=
  ∀ (o : Byte) (s : State),
    (DecodesAs [0xE0, o] (Form.ldhStore o).instr ∧
      StoresByte (Form.ldhStore o).instr s (BitVec.ofNat 16 (0xFF00 + o.toNat)) s.a) ∧
    (DecodesAs [0xF0, o] (Form.ldhLoad o).instr ∧
      LoadsReg (Form.ldhLoad o).instr s .a (s.read8 (BitVec.ofNat 16 (0xFF00 + o.toNat)))) ∧
    (DecodesAs [0xE2] Form.ldFastCA.instr ∧
      StoresByte Form.ldFastCA.instr s (BitVec.ofNat 16 (0xFF00 + s.c.toNat)) s.a) ∧
    (DecodesAs [0xF2] Form.ldAFastC.instr ∧
      LoadsReg Form.ldAFastC.instr s .a (s.read8 (BitVec.ofNat 16 (0xFF00 + s.c.toNat))))

/-- LD (a16),A; LD A,(a16): byte 1 is the high byte of the address (44_load.md R198, R199; 30_encoding.md
R96): constructors ldMemA16A, ldAMemA16. -/
def Obligations.AbsoluteLoadAndStore : Prop :=
  ∀ (hi lo : Byte) (s : State),
    (DecodesAs [0xEA, hi, lo] (Form.ldAbsA (joinBytes hi lo)).instr ∧
      StoresByte (Form.ldAbsA (joinBytes hi lo)).instr s (joinBytes hi lo) s.a) ∧
    (DecodesAs [0xFA, hi, lo] (Form.ldAAbs (joinBytes hi lo)).instr ∧
      LoadsReg (Form.ldAAbs (joinBytes hi lo)).instr s .a (s.read8 (joinBytes hi lo)))

/-- LD rr,d16; LD SP,d16; LD SP,HL (44_load.md R202, R200, R201): constructors ldBcD16 ldDeD16 ldHlD16,
ldSpD16, ldSpHl. Byte 1 of the immediate lands in the high register. -/
def Obligations.ShortLoads : Prop :=
  (∀ (p : OpPair) (hi lo : Byte) (s : State),
    DecodesAs [0x01 + 16 * p.code, hi, lo] (Form.ldPairImm p (joinBytes hi lo)).instr ∧
    ∃ t, exec (Form.ldPairImm p (joinBytes hi lo)).instr s = .next t ∧
      t.reg (pairHi p.pair) = hi ∧ t.reg (pairLo p.pair) = lo ∧
      OnlyRegs s t [pairHi p.pair, pairLo p.pair]) ∧
  (∀ (hi lo : Byte) (s : State), DecodesAs [0x31, hi, lo] (Form.ldSpImm (joinBytes hi lo)).instr ∧
    LoadsSp (Form.ldSpImm (joinBytes hi lo)).instr s (joinBytes hi lo)) ∧
  (∀ s : State, DecodesAs [0xF9] Form.ldSpHl.instr ∧ LoadsSp Form.ldSpHl.instr s (s.pair .hl))

/-! ### Push and pop (8 instructions) -/

/-- PUSH rr; PUSH AF stores all eight bits of F (45_stack.md R215, 10_state.md R26): constructors pushBc
pushDe pushHl pushAf. -/
def Obligations.PushResult : Prop :=
  ∀ (p : Pair) (s : State), DecodesAs [0xC5 + 16 * p.stackCode] (Form.push p).instr ∧
    ∃ t, exec (Form.push p).instr s = .next t ∧
      PushedShort s t (s.reg (pairHi p)) (s.reg (pairLo p)) ∧
      RegsKept s t [] ∧ t.pc = s.pc ∧ RestKept s t

/-- POP rr; POP AF writes all eight bits of F (45_stack.md R216, R217, 10_state.md R26): constructors
popBc popDe popHl, popAf. -/
def Obligations.PopResult : Prop :=
  (∀ (p : OpPair) (s : State), DecodesAs [0xC1 + 16 * p.code] (Form.pop p).instr ∧
    PopsInto (Form.pop p).instr s p.pair) ∧
  (∀ s : State, DecodesAs [0xF1] Form.popAf.instr ∧ PopsInto Form.popAf.instr s .af)

/-- A PUSH of any pair followed by a POP of any pair copies the pair, restores the stack pointer and
changes no other register; with one pair it is the round trip of 95_test_vectors.md section 1.4, AF and its
eight bits of F included (45_stack.md R215 to R217, 10_state.md R26). -/
def Obligations.PushThenPopCopiesPair : Prop :=
  ∀ (p q : Pair) (s : State),
    ∃ t u, exec (Form.push p).instr s = .next t ∧ exec (popForm q).instr t = .next u ∧
      u.pair q = s.pair p ∧ u.sp = s.sp ∧ RegsKept s u [pairHi q, pairLo q]

/-! ### The video timing machine -/

/-- The exits of the four modes, with the full budget of the mode entered and the events emitted
(50_video_timing.md R231, R234, R235, R237, R244). -/
def Obligations.ModeExits : Prop :=
  ∀ r l : Nat,
    nextMode { mode := .oamScan, remaining := r, line := l } =
      ({ mode := .pixelTransfer, remaining := 170, line := l }, []) ∧
    nextMode { mode := .pixelTransfer, remaining := r, line := l } =
      ({ mode := .hBlank, remaining := 206, line := l }, [.scanline l]) ∧
    nextMode { mode := .hBlank, remaining := r, line := l } =
      (if l + 1 = 144 then ({ mode := .vBlank, remaining := 456, line := l + 1 }, [.frame])
       else ({ mode := .oamScan, remaining := 80, line := l + 1 }, [])) ∧
    nextMode { mode := .vBlank, remaining := r, line := l } =
      (if l + 1 = 154 then ({ mode := .oamScan, remaining := 80, line := 0 }, [])
       else ({ mode := .vBlank, remaining := 456, line := l + 1 }, []))

/-- Tick is the loop of 50_video_timing.md R236, for every count and every state: the model's bound on
the number of passes never cuts it short (R238, log 14). -/
def Obligations.TickIsTheLoop : Prop :=
  ∀ (n : Nat) (v : Video),
    tickVideo n v =
      if v.remaining ≤ n then
        let w := nextMode v
        let u := tickVideo (n - v.remaining) w.1
        (u.1, w.2 ++ u.2)
      else ({ v with remaining := v.remaining - n }, [])

/-- Ticks compose, states and events alike, from any state (50_video_timing.md R238). -/
def Obligations.TicksCompose : Prop :=
  ∀ (a b : Nat) (v : Video),
    (tickVideo (a + b) v).1 = (tickVideo b (tickVideo a v).1).1 ∧
    (tickVideo (a + b) v).2 = (tickVideo a v).2 ++ (tickVideo b (tickVideo a v).1).2

/-- After any sequence of Ticks from Reset, mode, remaining and line are those of the total number of
cycles ticked (50_video_timing.md R242). -/
def Obligations.VideoFollowsTotalCycles : Prop :=
  ∀ counts : List Nat,
    counts.foldl (fun v n => (tickVideo n v).1) Video.reset = videoAt counts.sum

/-- A frame lasts 70224 cycles: from every state that meets the invariants a Tick of that many cycles
comes back to the state (50_video_timing.md R242, 95_test_vectors.md section 2.8). -/
def Obligations.FramePeriod : Prop :=
  ∀ v : Video, v.Inv → (tickVideo 70224 v).1 = v

/-- The events of the first frame: one per visible line, in order, then the frame
(50_video_timing.md R244, 95_test_vectors.md section 2.8). -/
def Obligations.FrameEvents : Prop :=
  (tickVideo 70224 Video.reset).2 = (List.range 144).map RenderEvent.scanline ++ [.frame]

/-- Tick changes nothing but the video timing machine, and a step neither changes it nor depends on it
(50_video_timing.md R246). -/
def Obligations.StepAndTickAreIndependent : Prop :=
  (∀ (n : Nat) (s : State), (tick n s).1 = { s with video := (tickVideo n s.video).1 }) ∧
  (∀ (s : State) (w : Video),
    match step s with
    | .next t => t.video = s.video ∧ step { s with video := w } = .next { t with video := w }
    | .fault r => step { s with video := w } = .fault r
    | .refused r => step { s with video := w } = .refused r)
end

