-- ==== Sys2Proof/Laws/Form.lean ====
section
/-! SUPPORT. Every instruction is the instruction of some form, so a statement about every form is about
every instruction. -/

namespace Sys2Proof

/-- The form of an instruction: the numbered rule that defines it, with its operands. -/
def Instr.form : Instr → Form
  | .ldBcD16 d16 => .ldPairImm .bc d16
  | .ldMemBcA => .ldBcA
  | .incBc => .incPair .bc
  | .incB => .incReg .b
  | .decB => .decReg .b
  | .ldBD8 d8 => .ldRegImm .b d8
  | .rlca => .rlca
  | .ldAMemBc => .ldABc
  | .decBc => .decPair .bc
  | .incC => .incReg .c
  | .decC => .decReg .c
  | .ldCD8 d8 => .ldRegImm .c d8
  | .ldDeD16 d16 => .ldPairImm .de d16
  | .ldMemDeA => .ldDeA
  | .incDe => .incPair .de
  | .incD => .incReg .d
  | .decD => .decReg .d
  | .ldDD8 d8 => .ldRegImm .d d8
  | .rla => .rla
  | .jrR8 r8 => .jr r8
  | .ldAMemDe => .ldADe
  | .decDe => .decPair .de
  | .incE => .incReg .e
  | .decE => .decReg .e
  | .ldED8 d8 => .ldRegImm .e d8
  | .jrNzR8 r8 => .jrCond .nz r8
  | .ldHlD16 d16 => .ldPairImm .hl d16
  | .ldMemHlIncA => .ldHlIncA
  | .incHl => .incPair .hl
  | .incH => .incReg .h
  | .decH => .decReg .h
  | .ldHD8 d8 => .ldRegImm .h d8
  | .jrZR8 r8 => .jrCond .z r8
  | .ldAMemHlInc => .ldAHlInc
  | .decHl => .decPair .hl
  | .incL => .incReg .l
  | .decL => .decReg .l
  | .ldLD8 d8 => .ldRegImm .l d8
  | .jrNcR8 r8 => .jrCond .nc r8
  | .ldSpD16 d16 => .ldSpImm d16
  | .ldMemHlDecA => .ldHlDecA
  | .incSp => .incSp
  | .incMemHl => .incMem
  | .decMemHl => .decMem
  | .ldMemHlD8 d8 => .ldHlImm d8
  | .jrCR8 r8 => .jrCond .c r8
  | .ldAMemHlDec => .ldAHlDec
  | .decSp => .decSp
  | .incA => .incReg .a
  | .decA => .decReg .a
  | .ldAD8 d8 => .ldRegImm .a d8
  | .ldBB => .ldReg .b .b
  | .ldBC => .ldReg .b .c
  | .ldBD => .ldReg .b .d
  | .ldBE => .ldReg .b .e
  | .ldBH => .ldReg .b .h
  | .ldBL => .ldReg .b .l
  | .ldBMemHl => .ldRegHl .b
  | .ldBA => .ldReg .b .a
  | .ldCB => .ldReg .c .b
  | .ldCC => .ldReg .c .c
  | .ldCD => .ldReg .c .d
  | .ldCE => .ldReg .c .e
  | .ldCH => .ldReg .c .h
  | .ldCL => .ldReg .c .l
  | .ldCMemHl => .ldRegHl .c
  | .ldCA => .ldReg .c .a
  | .ldDB => .ldReg .d .b
  | .ldDC => .ldReg .d .c
  | .ldDD => .ldReg .d .d
  | .ldDE => .ldReg .d .e
  | .ldDH => .ldReg .d .h
  | .ldDL => .ldReg .d .l
  | .ldDMemHl => .ldRegHl .d
  | .ldDA => .ldReg .d .a
  | .ldEB => .ldReg .e .b
  | .ldEC => .ldReg .e .c
  | .ldED => .ldReg .e .d
  | .ldEE => .ldReg .e .e
  | .ldEH => .ldReg .e .h
  | .ldEL => .ldReg .e .l
  | .ldEMemHl => .ldRegHl .e
  | .ldEA => .ldReg .e .a
  | .ldHB => .ldReg .h .b
  | .ldHC => .ldReg .h .c
  | .ldHD => .ldReg .h .d
  | .ldHE => .ldReg .h .e
  | .ldHH => .ldReg .h .h
  | .ldHL => .ldReg .h .l
  | .ldHMemHl => .ldRegHl .h
  | .ldHA => .ldReg .h .a
  | .ldLB => .ldReg .l .b
  | .ldLC => .ldReg .l .c
  | .ldLD => .ldReg .l .d
  | .ldLE => .ldReg .l .e
  | .ldLH => .ldReg .l .h
  | .ldLL => .ldReg .l .l
  | .ldLMemHl => .ldRegHl .l
  | .ldLA => .ldReg .l .a
  | .ldMemHlB => .ldHlReg .b
  | .ldMemHlC => .ldHlReg .c
  | .ldMemHlD => .ldHlReg .d
  | .ldMemHlE => .ldHlReg .e
  | .ldMemHlH => .ldHlReg .h
  | .ldMemHlL => .ldHlReg .l
  | .ldMemHlA => .ldHlReg .a
  | .ldAB => .ldReg .a .b
  | .ldAC => .ldReg .a .c
  | .ldAD => .ldReg .a .d
  | .ldAE => .ldReg .a .e
  | .ldAH => .ldReg .a .h
  | .ldAL => .ldReg .a .l
  | .ldAMemHl => .ldRegHl .a
  | .ldAA => .ldReg .a .a
  | .addAB => .addReg .b
  | .addAC => .addReg .c
  | .addAD => .addReg .d
  | .addAE => .addReg .e
  | .addAH => .addReg .h
  | .addAL => .addReg .l
  | .addAMemHl => .addHl
  | .addAA => .addReg .a
  | .subB => .subReg .b
  | .subC => .subReg .c
  | .subD => .subReg .d
  | .subE => .subReg .e
  | .subH => .subReg .h
  | .subL => .subReg .l
  | .subMemHl => .subHl
  | .subA => .subReg .a
  | .xorB => .xorReg .b
  | .xorC => .xorReg .c
  | .xorD => .xorReg .d
  | .xorE => .xorReg .e
  | .xorH => .xorReg .h
  | .xorL => .xorReg .l
  | .xorMemHl => .xorHl
  | .xorA => .xorReg .a
  | .cpB => .cpReg .b
  | .cpC => .cpReg .c
  | .cpD => .cpReg .d
  | .cpE => .cpReg .e
  | .cpH => .cpReg .h
  | .cpL => .cpReg .l
  | .cpMemHl => .cpHl
  | .cpA => .cpReg .a
  | .retNz => .retCond .nz
  | .popBc => .pop .bc
  | .callNzA16 a16 => .callCond .nz a16
  | .pushBc => .push .bc
  | .addAD8 d8 => .addImm d8
  | .retZ => .retCond .z
  | .ret => .ret
  | .callZA16 a16 => .callCond .z a16
  | .callA16 a16 => .call a16
  | .retNc => .retCond .nc
  | .popDe => .pop .de
  | .callNcA16 a16 => .callCond .nc a16
  | .pushDe => .push .de
  | .subD8 d8 => .subImm d8
  | .retC => .retCond .c
  | .callCA16 a16 => .callCond .c a16
  | .ldhMemA8A a8 => .ldhStore a8
  | .popHl => .pop .hl
  | .ldMemCA => .ldFastCA
  | .pushHl => .push .hl
  | .ldMemA16A a16 => .ldAbsA a16
  | .xorD8 d8 => .xorImm d8
  | .ldhAMemA8 a8 => .ldhLoad a8
  | .popAf => .popAf
  | .ldAMemC => .ldAFastC
  | .pushAf => .push .af
  | .ldSpHl => .ldSpHl
  | .ldAMemA16 a16 => .ldAAbs a16
  | .cpD8 d8 => .cpImm d8
  | .rlcB => .rlcReg .b
  | .rlcC => .rlcReg .c
  | .rlcD => .rlcReg .d
  | .rlcE => .rlcReg .e
  | .rlcH => .rlcReg .h
  | .rlcL => .rlcReg .l
  | .rlcMemHl => .rlcHl
  | .rlcA => .rlcReg .a
  | .rlB => .rlReg .b
  | .rlC => .rlReg .c
  | .rlD => .rlReg .d
  | .rlE => .rlReg .e
  | .rlH => .rlReg .h
  | .rlL => .rlReg .l
  | .rlMemHl => .rlHl
  | .rlA => .rlReg .a
  | .bit0B => .bitReg 0 .b
  | .bit0C => .bitReg 0 .c
  | .bit0D => .bitReg 0 .d
  | .bit0E => .bitReg 0 .e
  | .bit0H => .bitReg 0 .h
  | .bit0L => .bitReg 0 .l
  | .bit0MemHl => .bitHl 0
  | .bit0A => .bitReg 0 .a
  | .bit1B => .bitReg 1 .b
  | .bit1C => .bitReg 1 .c
  | .bit1D => .bitReg 1 .d
  | .bit1E => .bitReg 1 .e
  | .bit1H => .bitReg 1 .h
  | .bit1L => .bitReg 1 .l
  | .bit1MemHl => .bitHl 1
  | .bit1A => .bitReg 1 .a
  | .bit2B => .bitReg 2 .b
  | .bit2C => .bitReg 2 .c
  | .bit2D => .bitReg 2 .d
  | .bit2E => .bitReg 2 .e
  | .bit2H => .bitReg 2 .h
  | .bit2L => .bitReg 2 .l
  | .bit2MemHl => .bitHl 2
  | .bit2A => .bitReg 2 .a
  | .bit3B => .bitReg 3 .b
  | .bit3C => .bitReg 3 .c
  | .bit3D => .bitReg 3 .d
  | .bit3E => .bitReg 3 .e
  | .bit3H => .bitReg 3 .h
  | .bit3L => .bitReg 3 .l
  | .bit3MemHl => .bitHl 3
  | .bit3A => .bitReg 3 .a
  | .bit4B => .bitReg 4 .b
  | .bit4C => .bitReg 4 .c
  | .bit4D => .bitReg 4 .d
  | .bit4E => .bitReg 4 .e
  | .bit4H => .bitReg 4 .h
  | .bit4L => .bitReg 4 .l
  | .bit4MemHl => .bitHl 4
  | .bit4A => .bitReg 4 .a
  | .bit5B => .bitReg 5 .b
  | .bit5C => .bitReg 5 .c
  | .bit5D => .bitReg 5 .d
  | .bit5E => .bitReg 5 .e
  | .bit5H => .bitReg 5 .h
  | .bit5L => .bitReg 5 .l
  | .bit5MemHl => .bitHl 5
  | .bit5A => .bitReg 5 .a
  | .bit6B => .bitReg 6 .b
  | .bit6C => .bitReg 6 .c
  | .bit6D => .bitReg 6 .d
  | .bit6E => .bitReg 6 .e
  | .bit6H => .bitReg 6 .h
  | .bit6L => .bitReg 6 .l
  | .bit6MemHl => .bitHl 6
  | .bit6A => .bitReg 6 .a
  | .bit7B => .bitReg 7 .b
  | .bit7C => .bitReg 7 .c
  | .bit7D => .bitReg 7 .d
  | .bit7E => .bitReg 7 .e
  | .bit7H => .bitReg 7 .h
  | .bit7L => .bitReg 7 .l
  | .bit7MemHl => .bitHl 7
  | .bit7A => .bitReg 7 .a

theorem Instr.instr_form (i : Instr) : i.form.instr = i := by cases i <;> rfl

/-- No instruction is left out by the forms. -/
theorem Form.instr_surjective (i : Instr) : ∃ k : Form, k.instr = i := ⟨i.form, i.instr_form⟩

end Sys2Proof
end

