-- ==== Sys2Proof/Laws/State.lean ====
section
/-! SUPPORT. What each update of the state does to each field: one lemma per field per update, so that no
later proof unfolds a record update. -/

namespace Sys2Proof.Machine

/-! ### Reading the named registers -/

@[simp] theorem State.reg_a (s : State) : s.reg .a = s.a := rfl
@[simp] theorem State.reg_b (s : State) : s.reg .b = s.b := rfl
@[simp] theorem State.reg_c (s : State) : s.reg .c = s.c := rfl
@[simp] theorem State.reg_d (s : State) : s.reg .d = s.d := rfl
@[simp] theorem State.reg_e (s : State) : s.reg .e = s.e := rfl
@[simp] theorem State.reg_f (s : State) : s.reg .f = s.f := rfl
@[simp] theorem State.reg_h (s : State) : s.reg .h = s.h := rfl
@[simp] theorem State.reg_l (s : State) : s.reg .l = s.l := rfl

theorem State.pair_af (s : State) : s.pair .af = joinBytes s.a s.f := rfl
theorem State.pair_bc (s : State) : s.pair .bc = joinBytes s.b s.c := rfl
theorem State.pair_de (s : State) : s.pair .de = joinBytes s.d s.e := rfl
theorem State.pair_hl (s : State) : s.pair .hl = joinBytes s.h s.l := rfl

/-! ### `setReg` -/

@[simp] theorem State.setReg_a (s : State) (r : ByteReg) (v : Byte) :
    (s.setReg r v).a = if r = .a then v else s.a := by cases r <;> rfl
@[simp] theorem State.setReg_b (s : State) (r : ByteReg) (v : Byte) :
    (s.setReg r v).b = if r = .b then v else s.b := by cases r <;> rfl
@[simp] theorem State.setReg_c (s : State) (r : ByteReg) (v : Byte) :
    (s.setReg r v).c = if r = .c then v else s.c := by cases r <;> rfl
@[simp] theorem State.setReg_d (s : State) (r : ByteReg) (v : Byte) :
    (s.setReg r v).d = if r = .d then v else s.d := by cases r <;> rfl
@[simp] theorem State.setReg_e (s : State) (r : ByteReg) (v : Byte) :
    (s.setReg r v).e = if r = .e then v else s.e := by cases r <;> rfl
@[simp] theorem State.setReg_f (s : State) (r : ByteReg) (v : Byte) :
    (s.setReg r v).f = if r = .f then v else s.f := by cases r <;> rfl
@[simp] theorem State.setReg_h (s : State) (r : ByteReg) (v : Byte) :
    (s.setReg r v).h = if r = .h then v else s.h := by cases r <;> rfl
@[simp] theorem State.setReg_l (s : State) (r : ByteReg) (v : Byte) :
    (s.setReg r v).l = if r = .l then v else s.l := by cases r <;> rfl
@[simp] theorem State.setReg_sp (s : State) (r : ByteReg) (v : Byte) :
    (s.setReg r v).sp = s.sp := by cases r <;> rfl
@[simp] theorem State.setReg_pc (s : State) (r : ByteReg) (v : Byte) :
    (s.setReg r v).pc = s.pc := by cases r <;> rfl
@[simp] theorem State.setReg_mem (s : State) (r : ByteReg) (v : Byte) :
    (s.setReg r v).mem = s.mem := by cases r <;> rfl
@[simp] theorem State.setReg_video (s : State) (r : ByteReg) (v : Byte) :
    (s.setReg r v).video = s.video := by cases r <;> rfl
@[simp] theorem State.setReg_fault (s : State) (r : ByteReg) (v : Byte) :
    (s.setReg r v).fault = s.fault := by cases r <;> rfl

theorem State.reg_setReg (s : State) (r q : ByteReg) (v : Byte) :
    (s.setReg r v).reg q = if r = q then v else s.reg q := by
  cases r <;> cases q <;> rfl

/-! ### `setPair` -/

@[simp] theorem State.setPair_a (s : State) (p : Pair) (v : Word) :
    (s.setPair p v).a = if p = .af then hiByte v else s.a := by cases p <;> rfl
@[simp] theorem State.setPair_b (s : State) (p : Pair) (v : Word) :
    (s.setPair p v).b = if p = .bc then hiByte v else s.b := by cases p <;> rfl
@[simp] theorem State.setPair_c (s : State) (p : Pair) (v : Word) :
    (s.setPair p v).c = if p = .bc then loByte v else s.c := by cases p <;> rfl
@[simp] theorem State.setPair_d (s : State) (p : Pair) (v : Word) :
    (s.setPair p v).d = if p = .de then hiByte v else s.d := by cases p <;> rfl
@[simp] theorem State.setPair_e (s : State) (p : Pair) (v : Word) :
    (s.setPair p v).e = if p = .de then loByte v else s.e := by cases p <;> rfl
@[simp] theorem State.setPair_f (s : State) (p : Pair) (v : Word) :
    (s.setPair p v).f = if p = .af then loByte v else s.f := by cases p <;> rfl
@[simp] theorem State.setPair_h (s : State) (p : Pair) (v : Word) :
    (s.setPair p v).h = if p = .hl then hiByte v else s.h := by cases p <;> rfl
@[simp] theorem State.setPair_l (s : State) (p : Pair) (v : Word) :
    (s.setPair p v).l = if p = .hl then loByte v else s.l := by cases p <;> rfl
@[simp] theorem State.setPair_sp (s : State) (p : Pair) (v : Word) :
    (s.setPair p v).sp = s.sp := by cases p <;> rfl
@[simp] theorem State.setPair_pc (s : State) (p : Pair) (v : Word) :
    (s.setPair p v).pc = s.pc := by cases p <;> rfl
@[simp] theorem State.setPair_mem (s : State) (p : Pair) (v : Word) :
    (s.setPair p v).mem = s.mem := by cases p <;> rfl
@[simp] theorem State.setPair_video (s : State) (p : Pair) (v : Word) :
    (s.setPair p v).video = s.video := by cases p <;> rfl
@[simp] theorem State.setPair_fault (s : State) (p : Pair) (v : Word) :
    (s.setPair p v).fault = s.fault := by cases p <;> rfl

/-! ### `setSp` -/

@[simp] theorem State.setSp_a (s : State) (v : Word) : (s.setSp v).a = s.a := rfl
@[simp] theorem State.setSp_b (s : State) (v : Word) : (s.setSp v).b = s.b := rfl
@[simp] theorem State.setSp_c (s : State) (v : Word) : (s.setSp v).c = s.c := rfl
@[simp] theorem State.setSp_d (s : State) (v : Word) : (s.setSp v).d = s.d := rfl
@[simp] theorem State.setSp_e (s : State) (v : Word) : (s.setSp v).e = s.e := rfl
@[simp] theorem State.setSp_f (s : State) (v : Word) : (s.setSp v).f = s.f := rfl
@[simp] theorem State.setSp_h (s : State) (v : Word) : (s.setSp v).h = s.h := rfl
@[simp] theorem State.setSp_l (s : State) (v : Word) : (s.setSp v).l = s.l := rfl
@[simp] theorem State.setSp_pc (s : State) (v : Word) : (s.setSp v).pc = s.pc := rfl
@[simp] theorem State.setSp_mem (s : State) (v : Word) : (s.setSp v).mem = s.mem := rfl
@[simp] theorem State.setSp_video (s : State) (v : Word) : (s.setSp v).video = s.video := rfl
@[simp] theorem State.setSp_fault (s : State) (v : Word) : (s.setSp v).fault = s.fault := rfl
@[simp] theorem State.setSp_sp (s : State) (v : Word) : (s.setSp v).sp = v := rfl

/-! ### `setPc` -/

@[simp] theorem State.setPc_a (s : State) (v : Word) : (s.setPc v).a = s.a := rfl
@[simp] theorem State.setPc_b (s : State) (v : Word) : (s.setPc v).b = s.b := rfl
@[simp] theorem State.setPc_c (s : State) (v : Word) : (s.setPc v).c = s.c := rfl
@[simp] theorem State.setPc_d (s : State) (v : Word) : (s.setPc v).d = s.d := rfl
@[simp] theorem State.setPc_e (s : State) (v : Word) : (s.setPc v).e = s.e := rfl
@[simp] theorem State.setPc_f (s : State) (v : Word) : (s.setPc v).f = s.f := rfl
@[simp] theorem State.setPc_h (s : State) (v : Word) : (s.setPc v).h = s.h := rfl
@[simp] theorem State.setPc_l (s : State) (v : Word) : (s.setPc v).l = s.l := rfl
@[simp] theorem State.setPc_sp (s : State) (v : Word) : (s.setPc v).sp = s.sp := rfl
@[simp] theorem State.setPc_mem (s : State) (v : Word) : (s.setPc v).mem = s.mem := rfl
@[simp] theorem State.setPc_video (s : State) (v : Word) : (s.setPc v).video = s.video := rfl
@[simp] theorem State.setPc_fault (s : State) (v : Word) : (s.setPc v).fault = s.fault := rfl
@[simp] theorem State.setPc_pc (s : State) (v : Word) : (s.setPc v).pc = v := rfl

/-! ### `write8` -/

@[simp] theorem State.write8_a (s : State) (a : Word) (v : Byte) : (s.write8 a v).a = s.a := rfl
@[simp] theorem State.write8_b (s : State) (a : Word) (v : Byte) : (s.write8 a v).b = s.b := rfl
@[simp] theorem State.write8_c (s : State) (a : Word) (v : Byte) : (s.write8 a v).c = s.c := rfl
@[simp] theorem State.write8_d (s : State) (a : Word) (v : Byte) : (s.write8 a v).d = s.d := rfl
@[simp] theorem State.write8_e (s : State) (a : Word) (v : Byte) : (s.write8 a v).e = s.e := rfl
@[simp] theorem State.write8_f (s : State) (a : Word) (v : Byte) : (s.write8 a v).f = s.f := rfl
@[simp] theorem State.write8_h (s : State) (a : Word) (v : Byte) : (s.write8 a v).h = s.h := rfl
@[simp] theorem State.write8_l (s : State) (a : Word) (v : Byte) : (s.write8 a v).l = s.l := rfl
@[simp] theorem State.write8_sp (s : State) (a : Word) (v : Byte) : (s.write8 a v).sp = s.sp := rfl
@[simp] theorem State.write8_pc (s : State) (a : Word) (v : Byte) : (s.write8 a v).pc = s.pc := rfl
@[simp] theorem State.write8_video (s : State) (a : Word) (v : Byte) : (s.write8 a v).video = s.video := rfl
@[simp] theorem State.write8_fault (s : State) (a : Word) (v : Byte) : (s.write8 a v).fault = s.fault := rfl
@[simp] theorem State.write8_mem (s : State) (a : Word) (v : Byte) :
    (s.write8 a v).mem = s.mem.write a v := rfl

/-! ### `write16` -/

@[simp] theorem State.write16_a (s : State) (a v : Word) : (s.write16 a v).a = s.a := rfl
@[simp] theorem State.write16_b (s : State) (a v : Word) : (s.write16 a v).b = s.b := rfl
@[simp] theorem State.write16_c (s : State) (a v : Word) : (s.write16 a v).c = s.c := rfl
@[simp] theorem State.write16_d (s : State) (a v : Word) : (s.write16 a v).d = s.d := rfl
@[simp] theorem State.write16_e (s : State) (a v : Word) : (s.write16 a v).e = s.e := rfl
@[simp] theorem State.write16_f (s : State) (a v : Word) : (s.write16 a v).f = s.f := rfl
@[simp] theorem State.write16_h (s : State) (a v : Word) : (s.write16 a v).h = s.h := rfl
@[simp] theorem State.write16_l (s : State) (a v : Word) : (s.write16 a v).l = s.l := rfl
@[simp] theorem State.write16_sp (s : State) (a v : Word) : (s.write16 a v).sp = s.sp := rfl
@[simp] theorem State.write16_pc (s : State) (a v : Word) : (s.write16 a v).pc = s.pc := rfl
@[simp] theorem State.write16_video (s : State) (a v : Word) : (s.write16 a v).video = s.video := rfl
@[simp] theorem State.write16_fault (s : State) (a v : Word) : (s.write16 a v).fault = s.fault := rfl
theorem State.write16_mem (s : State) (a v : Word) :
    (s.write16 a v).mem = (s.mem.write a (hiByte v)).write (a + 1) (loByte v) := rfl

/-! ### `push` -/

@[simp] theorem State.push_a (s : State) (v : Word) : (s.push v).a = s.a := rfl
@[simp] theorem State.push_b (s : State) (v : Word) : (s.push v).b = s.b := rfl
@[simp] theorem State.push_c (s : State) (v : Word) : (s.push v).c = s.c := rfl
@[simp] theorem State.push_d (s : State) (v : Word) : (s.push v).d = s.d := rfl
@[simp] theorem State.push_e (s : State) (v : Word) : (s.push v).e = s.e := rfl
@[simp] theorem State.push_f (s : State) (v : Word) : (s.push v).f = s.f := rfl
@[simp] theorem State.push_h (s : State) (v : Word) : (s.push v).h = s.h := rfl
@[simp] theorem State.push_l (s : State) (v : Word) : (s.push v).l = s.l := rfl
@[simp] theorem State.push_pc (s : State) (v : Word) : (s.push v).pc = s.pc := rfl
@[simp] theorem State.push_video (s : State) (v : Word) : (s.push v).video = s.video := rfl
@[simp] theorem State.push_fault (s : State) (v : Word) : (s.push v).fault = s.fault := rfl
@[simp] theorem State.push_sp (s : State) (v : Word) : (s.push v).sp = s.sp - 2 := rfl
theorem State.push_mem (s : State) (v : Word) :
    (s.push v).mem = (s.mem.write (s.sp - 2) (hiByte v)).write (s.sp - 2 + 1) (loByte v) := rfl

/-! ### `setFlag` -/

@[simp] theorem State.setFlag_a (s : State) (k : Flag) (on : Bool) : (s.setFlag k on).a = s.a := rfl
@[simp] theorem State.setFlag_b (s : State) (k : Flag) (on : Bool) : (s.setFlag k on).b = s.b := rfl
@[simp] theorem State.setFlag_c (s : State) (k : Flag) (on : Bool) : (s.setFlag k on).c = s.c := rfl
@[simp] theorem State.setFlag_d (s : State) (k : Flag) (on : Bool) : (s.setFlag k on).d = s.d := rfl
@[simp] theorem State.setFlag_e (s : State) (k : Flag) (on : Bool) : (s.setFlag k on).e = s.e := rfl
@[simp] theorem State.setFlag_h (s : State) (k : Flag) (on : Bool) : (s.setFlag k on).h = s.h := rfl
@[simp] theorem State.setFlag_l (s : State) (k : Flag) (on : Bool) : (s.setFlag k on).l = s.l := rfl
@[simp] theorem State.setFlag_sp (s : State) (k : Flag) (on : Bool) : (s.setFlag k on).sp = s.sp := rfl
@[simp] theorem State.setFlag_pc (s : State) (k : Flag) (on : Bool) : (s.setFlag k on).pc = s.pc := rfl
@[simp] theorem State.setFlag_mem (s : State) (k : Flag) (on : Bool) : (s.setFlag k on).mem = s.mem := rfl
@[simp] theorem State.setFlag_video (s : State) (k : Flag) (on : Bool) : (s.setFlag k on).video = s.video := rfl
@[simp] theorem State.setFlag_fault (s : State) (k : Flag) (on : Bool) : (s.setFlag k on).fault = s.fault := rfl
@[simp] theorem State.setFlag_f (s : State) (k : Flag) (on : Bool) :
    (s.setFlag k on).f = withFlag s.f k on := rfl

/-! ### `raiseUnknown` -/

@[simp] theorem State.raiseUnknown_a (s : State) (t : OpTable) (x : Byte) : (s.raiseUnknown t x).a = s.a := rfl
@[simp] theorem State.raiseUnknown_b (s : State) (t : OpTable) (x : Byte) : (s.raiseUnknown t x).b = s.b := rfl
@[simp] theorem State.raiseUnknown_c (s : State) (t : OpTable) (x : Byte) : (s.raiseUnknown t x).c = s.c := rfl
@[simp] theorem State.raiseUnknown_d (s : State) (t : OpTable) (x : Byte) : (s.raiseUnknown t x).d = s.d := rfl
@[simp] theorem State.raiseUnknown_e (s : State) (t : OpTable) (x : Byte) : (s.raiseUnknown t x).e = s.e := rfl
@[simp] theorem State.raiseUnknown_f (s : State) (t : OpTable) (x : Byte) : (s.raiseUnknown t x).f = s.f := rfl
@[simp] theorem State.raiseUnknown_h (s : State) (t : OpTable) (x : Byte) : (s.raiseUnknown t x).h = s.h := rfl
@[simp] theorem State.raiseUnknown_l (s : State) (t : OpTable) (x : Byte) : (s.raiseUnknown t x).l = s.l := rfl
@[simp] theorem State.raiseUnknown_sp (s : State) (t : OpTable) (x : Byte) : (s.raiseUnknown t x).sp = s.sp := rfl
@[simp] theorem State.raiseUnknown_pc (s : State) (t : OpTable) (x : Byte) : (s.raiseUnknown t x).pc = s.pc := rfl
@[simp] theorem State.raiseUnknown_mem (s : State) (t : OpTable) (x : Byte) : (s.raiseUnknown t x).mem = s.mem := rfl
@[simp] theorem State.raiseUnknown_video (s : State) (t : OpTable) (x : Byte) : (s.raiseUnknown t x).video = s.video := rfl
@[simp] theorem State.raiseUnknown_fault (s : State) (t : OpTable) (x : Byte) :
    (s.raiseUnknown t x).fault = some { table := t, byte := x } := rfl

/-! ### `incHl`, `decHl` -/

@[simp] theorem State.incHl_a (s : State) : s.incHl.a = s.a := rfl
@[simp] theorem State.incHl_b (s : State) : s.incHl.b = s.b := rfl
@[simp] theorem State.incHl_c (s : State) : s.incHl.c = s.c := rfl
@[simp] theorem State.incHl_d (s : State) : s.incHl.d = s.d := rfl
@[simp] theorem State.incHl_e (s : State) : s.incHl.e = s.e := rfl
@[simp] theorem State.incHl_f (s : State) : s.incHl.f = s.f := rfl
@[simp] theorem State.incHl_sp (s : State) : s.incHl.sp = s.sp := rfl
@[simp] theorem State.incHl_pc (s : State) : s.incHl.pc = s.pc := rfl
@[simp] theorem State.incHl_mem (s : State) : s.incHl.mem = s.mem := rfl
@[simp] theorem State.incHl_video (s : State) : s.incHl.video = s.video := rfl
@[simp] theorem State.incHl_fault (s : State) : s.incHl.fault = s.fault := rfl
@[simp] theorem State.decHl_a (s : State) : s.decHl.a = s.a := rfl
@[simp] theorem State.decHl_b (s : State) : s.decHl.b = s.b := rfl
@[simp] theorem State.decHl_c (s : State) : s.decHl.c = s.c := rfl
@[simp] theorem State.decHl_d (s : State) : s.decHl.d = s.d := rfl
@[simp] theorem State.decHl_e (s : State) : s.decHl.e = s.e := rfl
@[simp] theorem State.decHl_f (s : State) : s.decHl.f = s.f := rfl
@[simp] theorem State.decHl_sp (s : State) : s.decHl.sp = s.sp := rfl
@[simp] theorem State.decHl_pc (s : State) : s.decHl.pc = s.pc := rfl
@[simp] theorem State.decHl_mem (s : State) : s.decHl.mem = s.mem := rfl
@[simp] theorem State.decHl_video (s : State) : s.decHl.video = s.video := rfl
@[simp] theorem State.decHl_fault (s : State) : s.decHl.fault = s.fault := rfl

/-! ### `fetch8`, `fetch16`, `pop` -/

@[simp] theorem State.fetch8_fst (s : State) : s.fetch8.1 = s.read8 s.pc := rfl
@[simp] theorem State.fetch8_snd (s : State) : s.fetch8.2 = s.setPc (s.pc + 1) := rfl
@[simp] theorem State.pop_fst (s : State) : s.pop.1 = s.read16 s.sp := rfl
@[simp] theorem State.pop_snd (s : State) : s.pop.2 = s.setSp (s.sp + 2) := rfl

/-! ### Reading memory after an update of something else -/

@[simp] theorem State.setReg_read8 (s : State) (r : ByteReg) (v : Byte) (x : Word) :
    (s.setReg r v).read8 x = s.read8 x := by cases r <;> rfl
@[simp] theorem State.setPair_read8 (s : State) (p : Pair) (v x : Word) :
    (s.setPair p v).read8 x = s.read8 x := by cases p <;> rfl
@[simp] theorem State.setSp_read8 (s : State) (v x : Word) : (s.setSp v).read8 x = s.read8 x := rfl
@[simp] theorem State.setPc_read8 (s : State) (v x : Word) : (s.setPc v).read8 x = s.read8 x := rfl
@[simp] theorem State.setFlag_read8 (s : State) (k : Flag) (on : Bool) (x : Word) :
    (s.setFlag k on).read8 x = s.read8 x := rfl
@[simp] theorem State.raiseUnknown_read8 (s : State) (t : OpTable) (b : Byte) (x : Word) :
    (s.raiseUnknown t b).read8 x = s.read8 x := rfl
@[simp] theorem State.incHl_read8 (s : State) (x : Word) : s.incHl.read8 x = s.read8 x := rfl
@[simp] theorem State.decHl_read8 (s : State) (x : Word) : s.decHl.read8 x = s.read8 x := rfl

/-! ### Any byte register after an update -/

@[simp] theorem State.reg_setSp (s : State) (v : Word) (q : ByteReg) : (s.setSp v).reg q = s.reg q := by
  cases q <;> rfl
@[simp] theorem State.reg_setPc (s : State) (v : Word) (q : ByteReg) : (s.setPc v).reg q = s.reg q := by
  cases q <;> rfl
@[simp] theorem State.reg_write8 (s : State) (a : Word) (v : Byte) (q : ByteReg) :
    (s.write8 a v).reg q = s.reg q := by cases q <;> rfl
@[simp] theorem State.reg_push (s : State) (v : Word) (q : ByteReg) : (s.push v).reg q = s.reg q := by
  cases q <;> rfl

/-- A pair write leaves the registers outside the pair (10_state.md R22). -/
theorem State.reg_setPair_ne (s : State) (p : Pair) (v : Word) (q : ByteReg)
    (hi : q ≠ pairHi p) (lo : q ≠ pairLo p) : (s.setPair p v).reg q = s.reg q := by
  rw [State.setPair, State.reg_setReg, if_neg lo.symm, State.reg_setReg, if_neg hi.symm]

end Sys2Proof.Machine
end

