-- ==== Sys2Proof/Laws/Flags.lean ====
section
/-! SUPPORT. The flags in F, and one spec lemma per operation function: its result, the flags it writes,
and that it changes nothing but F. -/

namespace Sys2Proof.Machine

/-- The bit of F a flag stands in (10_state.md R25). -/
def flagBit : Flag → Nat
  | .z => 7
  | .n => 6
  | .h => 5
  | .c => 4

theorem withFlag_getLsbD (f : Byte) (k : Flag) (on : Bool) (i : Nat) :
    (withFlag f k on).getLsbD i = if i = flagBit k then on else f.getLsbD i := by
  by_cases hi : i < 8
  · have : ∀ (f : Byte) (i : Fin 8), (withFlag f k on).getLsbD i =
        if (i : Nat) = flagBit k then on else f.getLsbD i := by
      cases k <;> cases on <;> decide +kernel
    exact this f ⟨i, hi⟩
  · have h8 : 8 ≤ i := by omega
    have hk : i ≠ flagBit k := by cases k <;> simp only [flagBit] <;> omega
    rw [if_neg hk, BitVec.getLsbD_of_ge _ _ h8, BitVec.getLsbD_of_ge _ _ h8]

theorem withFlag_getElem (f : Byte) (k : Flag) (on : Bool) (i : Nat) (h : i < 8) :
    (withFlag f k on)[i] = if i = flagBit k then on else f[i] := by
  rw [← BitVec.getLsbD_eq_getElem, ← BitVec.getLsbD_eq_getElem, withFlag_getLsbD]

theorem withFlag_low (f : Byte) (k : Flag) (on : Bool) :
    (withFlag f k on).extractLsb' 0 4 = f.extractLsb' 0 4 := by
  revert f; cases k <;> cases on <;> decide +kernel

/-- A flag is its bit of F (10_state.md R25). -/
theorem State.flag_eq (s : State) (k : Flag) : s.flag k = s.f.getLsbD (flagBit k) := by
  have : ∀ f : Byte, (f &&& flagMask k != 0) = f.getLsbD (flagBit k) := by
    cases k <;> decide +kernel
  exact this s.f

/-- A flag after a flag write (00_scope.md R8). -/
theorem State.flag_setFlag (s : State) (k j : Flag) (on : Bool) :
    (s.setFlag k on).flag j = if j = k then on else s.flag j := by
  rw [State.flag_eq, State.setFlag_f, withFlag_getLsbD, State.flag_eq]
  cases k <;> cases j <;> simp [flagBit]

theorem State.setFlag_eq (s : State) (k : Flag) (on : Bool) :
    s.setFlag k on = { s with f := withFlag s.f k on } := rfl

theorem lowNibble_eq (v : Byte) : lowNibble v = v.toNat % 16 := by
  have : ∀ v : Byte, lowNibble v = v.toNat % 16 := by decide +kernel
  exact this v

theorem toNat_eq_zero_iff (v : Byte) : v = 0 ↔ v.toNat = 0 :=
  ⟨fun h => by simp [h], fun h => BitVec.eq_of_toNat_eq (by simpa using h)⟩

/-- `OpAdd` (40_arith_logic.md R111). -/
theorem opAdd_result (l r : Byte) (s : State) :
    (opAdd l r s).1.toNat = (l.toNat + r.toNat) % 256 := by simp [opAdd]

theorem opAdd_flags (l r : Byte) (s : State) :
    FlagsWritten s.f (opAdd l r s).2.f (decide ((l.toNat + r.toNat) % 256 = 0)) false
      (decide (l.toNat % 16 + r.toNat % 16 > 15)) (decide (l.toNat + r.toNat > 255)) := by
  have hz : decide (BitVec.ofNat 8 (l.toNat + r.toNat) = 0) =
      decide ((l.toNat + r.toNat) % 256 = 0) := by
    rw [decide_eq_decide, toNat_eq_zero_iff]; simp
  constructor <;>
    simp only [opAdd, State.setFlag_f, withFlag_getLsbD, withFlag_low, flagBit, lowNibble_eq, hz] <;>
    rfl

theorem opAdd_frame (l r : Byte) (s : State) :
    (opAdd l r s).2 = { s with f := (opAdd l r s).2.f } := rfl

/-- `OpSub` (40_arith_logic.md R112). -/
theorem opSub_result (l r : Byte) (s : State) :
    (opSub l r s).1.toNat = (l.toNat + 256 - r.toNat) % 256 := by
  have := l.isLt; have := r.isLt
  simp only [opSub, BitVec.toNat_ofInt]
  omega

theorem opSub_flags (l r : Byte) (s : State) :
    FlagsWritten s.f (opSub l r s).2.f (decide (l.toNat = r.toNat)) true
      (decide (r.toNat % 16 > l.toNat % 16)) (decide (r.toNat > l.toNat)) := by
  have hl := l.isLt; have hr := r.isLt
  have hz : decide (BitVec.ofInt 8 ((l.toNat : Int) - r.toNat) = (0 : Byte)) =
      decide (l.toNat = r.toNat) := by
    rw [decide_eq_decide, toNat_eq_zero_iff, BitVec.toNat_ofInt]
    omega
  constructor <;>
    simp only [opSub, State.setFlag_f, withFlag_getLsbD, withFlag_low, flagBit, lowNibble_eq, hz] <;>
    rfl

theorem opSub_frame (l r : Byte) (s : State) :
    (opSub l r s).2 = { s with f := (opSub l r s).2.f } := rfl

/-- `OpXor` (40_arith_logic.md R113). -/
theorem opXor_result (l r : Byte) (s : State) : (opXor l r s).1 = l ^^^ r := rfl

theorem opXor_flags (l r : Byte) (s : State) :
    FlagsWritten s.f (opXor l r s).2.f (decide (l ^^^ r = 0)) false false false := by
  constructor <;>
    simp only [opXor, State.setFlag_f, withFlag_getLsbD, withFlag_low, flagBit] <;> rfl

theorem opXor_frame (l r : Byte) (s : State) :
    (opXor l r s).2 = { s with f := (opXor l r s).2.f } := rfl

/-- `OpCp` has the flags of `OpSub` and changes nothing but F (40_arith_logic.md R114). -/
theorem opCp_eq (l r : Byte) (s : State) : opCp l r s = { s with f := (opSub l r s).2.f } := rfl

/-- `OpInc` (41_inc_dec.md R130). -/
theorem opInc_result (v : Byte) (s : State) : (opInc v s).1.toNat = (v.toNat + 1) % 256 := by
  simp [opInc]

theorem opInc_flags (v : Byte) (s : State) :
    FlagsWritten s.f (opInc v s).2.f (decide (v.toNat = 255)) false
      (decide (v.toNat % 16 = 15)) (s.f.getLsbD 4) := by
  have := v.isLt
  have hz : decide (BitVec.ofNat 8 (v.toNat + 1) = (0 : Byte)) = decide (v.toNat = 255) := by
    rw [decide_eq_decide, toNat_eq_zero_iff, BitVec.toNat_ofNat]
    omega
  have hh : decide (v.toNat % 16 + 1 > 15) = decide (v.toNat % 16 = 15) := by
    rw [decide_eq_decide]; omega
  constructor <;>
    simp only [opInc, State.setFlag_f, withFlag_getLsbD, withFlag_low, flagBit, lowNibble_eq, hz, hh] <;>
    rfl

theorem opInc_frame (v : Byte) (s : State) : (opInc v s).2 = { s with f := (opInc v s).2.f } := rfl

/-- `OpDec` (41_inc_dec.md R131). -/
theorem opDec_result (v : Byte) (s : State) : (opDec v s).1.toNat = (v.toNat + 255) % 256 := by
  have := v.isLt
  simp only [opDec, BitVec.toNat_ofInt]
  omega

theorem opDec_flags (v : Byte) (s : State) :
    FlagsWritten s.f (opDec v s).2.f (decide (v.toNat = 1)) true
      (decide (v.toNat % 16 = 0)) (s.f.getLsbD 4) := by
  have := v.isLt
  have hz : decide (BitVec.ofInt 8 ((v.toNat : Int) - 1) = (0 : Byte)) = decide (v.toNat = 1) := by
    rw [decide_eq_decide, toNat_eq_zero_iff, BitVec.toNat_ofInt]
    omega
  have hh : decide (1 > v.toNat % 16) = decide (v.toNat % 16 = 0) := by
    rw [decide_eq_decide]; omega
  constructor <;>
    simp only [opDec, State.setFlag_f, withFlag_getLsbD, withFlag_low, flagBit, lowNibble_eq, hz, hh] <;>
    rfl

theorem opDec_frame (v : Byte) (s : State) : (opDec v s).2 = { s with f := (opDec v s).2.f } := rfl

/-- `OpRlc` (42_bit_rotate.md R146): bit 7 of the operand comes in at bit 0. -/
theorem opRlc_result (m : ZMode) (v : Byte) (s : State) :
    (opRlc m v s).1.toNat = v.toNat * 2 % 256 + v.toNat / 128 := by
  have : ∀ v : Byte, (BitVec.ofNat 8 ((v.toNat <<< 1) ||| (v.toNat >>> 7))).toNat =
      v.toNat * 2 % 256 + v.toNat / 128 := by decide +kernel
  exact this v

theorem opRlc_flags (m : ZMode) (v : Byte) (s : State) :
    FlagsWritten s.f (opRlc m v s).2.f (rotateZero m (opRlc m v s).1) false false (v.getLsbD 7) := by
  constructor <;>
    simp only [opRlc, State.setFlag_f, withFlag_getLsbD, withFlag_low, flagBit] <;> rfl

theorem opRlc_frame (m : ZMode) (v : Byte) (s : State) :
    (opRlc m v s).2 = { s with f := (opRlc m v s).2.f } := rfl

/-- `OpRl` (42_bit_rotate.md R147): the old carry comes in at bit 0. -/
theorem opRl_result (m : ZMode) (v : Byte) (s : State) :
    (opRl m v s).1.toNat = v.toNat * 2 % 256 + (s.f.getLsbD 4).toNat := by
  have : ∀ (v : Byte) (c : Bool), (BitVec.ofNat 8 ((v.toNat <<< 1) ||| c.toNat)).toNat =
      v.toNat * 2 % 256 + c.toNat := by decide +kernel
  have h := this v (s.flag .c)
  rw [State.flag_eq] at h
  simpa only [opRl, State.flag_eq, flagBit] using h

theorem opRl_flags (m : ZMode) (v : Byte) (s : State) :
    FlagsWritten s.f (opRl m v s).2.f (rotateZero m (opRl m v s).1) false false (v.getLsbD 7) := by
  constructor <;>
    simp only [opRl, State.setFlag_f, withFlag_getLsbD, withFlag_low, flagBit] <;> rfl

theorem opRl_frame (m : ZMode) (v : Byte) (s : State) :
    (opRl m v s).2 = { s with f := (opRl m v s).2.f } := rfl

/-- `OpBit` (42_bit_rotate.md R154). -/
theorem opBit_flags (n : Fin 8) (v : Byte) (s : State) :
    FlagsWritten s.f (opBit n v s).f (!v.getLsbD n) false true (s.f.getLsbD 4) := by
  constructor <;>
    simp only [opBit, State.setFlag_f, withFlag_getLsbD, withFlag_low, flagBit] <;> rfl

theorem opBit_frame (n : Fin 8) (v : Byte) (s : State) :
    opBit n v s = { s with f := (opBit n v s).f } := rfl

end Sys2Proof.Machine
end

