-- ==== Sys2Proof/Laws/Memory.lean ====
section
/-! SUPPORT. Memory: a read after a write, and that every memory operation keeps the canonical form. -/

namespace Sys2Proof.Machine

/-! ### Reads after the list operations -/

theorem Memory.lookup_erase (k j : Nat) (m : Memory) :
    Memory.lookup j (Memory.erase k m) = if j = k then Memory.unlisted else Memory.lookup j m := by
  induction m with
  | nil => simp [Memory.erase, Memory.lookup]
  | cons c m ih =>
    simp only [Memory.erase]
    split
    · rw [ih]; split
      · rfl
      · simp only [Memory.lookup]; split
        · omega
        · rfl
    · simp only [Memory.lookup, ih]; split
      · split
        · omega
        · rfl
      · rfl

theorem Memory.lookup_insert (k j : Nat) (v : Byte) (m : Memory) (h : ∀ c ∈ m, c.1 ≠ k) :
    Memory.lookup j (Memory.insert k v m) = if j = k then v else Memory.lookup j m := by
  induction m with
  | nil => simp only [Memory.insert, Memory.lookup, eq_comm]
  | cons c m ih =>
    have hc : c.1 ≠ k := h c (by simp)
    have ih := ih (fun d hd => h d (by simp [hd]))
    simp only [Memory.insert]
    split
    · by_cases hj : j = k
      · simp [Memory.lookup, hj]
      · simp [Memory.lookup, hj, Ne.symm hj]
    · simp only [Memory.lookup, ih]
      by_cases hj : j = k
      · simp [hj, hc]
      · simp [hj]

theorem Memory.mem_erase (k : Nat) (m : Memory) (c : Host.Cell) :
    c ∈ Memory.erase k m ↔ c ∈ m ∧ c.1 ≠ k := by
  induction m with
  | nil => simp [Memory.erase]
  | cons d m ih =>
    simp only [Memory.erase]
    split
    · rw [ih]; constructor
      · rintro ⟨h1, h2⟩; exact ⟨by simp [h1], h2⟩
      · rintro ⟨h1, h2⟩
        rcases List.mem_cons.1 h1 with rfl | h1
        · contradiction
        · exact ⟨h1, h2⟩
    · simp only [List.mem_cons, ih]
      constructor
      · rintro (rfl | ⟨h1, h2⟩)
        · exact ⟨.inl rfl, by assumption⟩
        · exact ⟨.inr h1, h2⟩
      · rintro ⟨rfl | h1, h2⟩
        · exact .inl rfl
        · exact .inr ⟨h1, h2⟩

theorem Memory.mem_insert (k : Nat) (v : Byte) (m : Memory) (c : Host.Cell) :
    c ∈ Memory.insert k v m ↔ c = (k, v) ∨ c ∈ m := by
  induction m with
  | nil => simp [Memory.insert]
  | cons d m ih =>
    simp only [Memory.insert]
    split
    · simp
    · simp only [List.mem_cons, ih]; tauto

/-- A write stores at its address and nowhere else (20_memory.md R51). It holds of every list, canonical
or not. -/
theorem Memory.read_write (m : Memory) (a b : Word) (v : Byte) :
    (m.write a v).read b = if b = a then v else m.read b := by
  have key : (b.toNat = a.toNat) ↔ b = a := ⟨BitVec.eq_of_toNat_eq, congrArg _⟩
  simp only [Memory.write, Memory.read]
  split
  · next h => rw [Memory.lookup_erase]; simp only [key, h]
  · rw [Memory.lookup_insert _ _ _ _ (fun c hc => ((Memory.mem_erase _ _ _).1 hc).2),
      Memory.lookup_erase]
    simp only [key]
    split <;> simp [*]

@[simp] theorem State.read8_write8 (s : State) (a b : Word) (v : Byte) :
    (s.write8 a v).read8 b = if b = a then v else s.read8 b :=
  Memory.read_write s.mem a b v

/-! ### The canonical form -/

theorem Memory.nil_wf : Memory.wf [] := by simp [Memory.wf]

theorem Memory.pairwise_erase (k : Nat) (m : Memory)
    (h : m.Pairwise (fun c d => c.1 < d.1)) :
    (Memory.erase k m).Pairwise (fun c d => c.1 < d.1) := by
  induction m with
  | nil => exact h
  | cons c m ih =>
    have ⟨h1, h2⟩ := List.pairwise_cons.1 h
    simp only [Memory.erase]
    split
    · exact ih h2
    · exact List.pairwise_cons.2 ⟨fun d hd => h1 d ((Memory.mem_erase _ _ _).1 hd).1, ih h2⟩

theorem Memory.pairwise_insert (k : Nat) (v : Byte) (m : Memory)
    (h : m.Pairwise (fun c d => c.1 < d.1)) (hk : ∀ c ∈ m, c.1 ≠ k) :
    (Memory.insert k v m).Pairwise (fun c d => c.1 < d.1) := by
  induction m with
  | nil => simp [Memory.insert]
  | cons c m ih =>
    have ⟨h1, h2⟩ := List.pairwise_cons.1 h
    have hc : c.1 ≠ k := hk c (by simp)
    simp only [Memory.insert]
    split
    · next hlt =>
      refine List.pairwise_cons.2 ⟨fun d hd => ?_, h⟩
      rcases List.mem_cons.1 hd with rfl | hd
      · exact hlt
      · exact Nat.lt_trans hlt (h1 d hd)
    · next hlt =>
      refine List.pairwise_cons.2 ⟨fun d hd => ?_, ih h2 (fun d hd => hk d (by simp [hd]))⟩
      rcases (Memory.mem_insert _ _ _ _).1 hd with rfl | hd
      · show c.1 < k; omega
      · exact h1 d hd

/-- A write keeps the canonical form. -/
theorem Memory.write_wf (m : Memory) (a : Word) (v : Byte) (h : m.wf) : (m.write a v).wf := by
  have ha : a.toNat < kaoboy.memSize := a.isLt
  have he : ∀ c ∈ Memory.erase a.toNat m, c.1 < kaoboy.memSize ∧ c.2 ≠ Memory.unlisted :=
    fun c hc => h.2 c ((Memory.mem_erase _ _ _).1 hc).1
  have hp := Memory.pairwise_erase a.toNat m h.1
  simp only [Memory.write]
  split
  · exact ⟨hp, he⟩
  · next hv =>
    refine ⟨Memory.pairwise_insert _ _ _ hp (fun c hc => ((Memory.mem_erase _ _ _).1 hc).2), ?_⟩
    intro c hc
    rcases (Memory.mem_insert _ _ _ _).1 hc with rfl | hc
    · exact ⟨ha, hv⟩
    · exact he c hc

/-- Placing bytes keeps the canonical form. -/
theorem Memory.place_wf (bytes : List Byte) : ∀ (m : Memory) (a : Word), m.wf → (m.place a bytes).wf := by
  induction bytes with
  | nil => exact fun m a h => h
  | cons b rest ih => exact fun m a h => ih _ _ (Memory.write_wf m a b h)

theorem State.write8_wf (s : State) (a : Word) (v : Byte) (h : s.mem.wf) : (s.write8 a v).mem.wf :=
  Memory.write_wf _ _ _ h

theorem State.write16_wf (s : State) (a v : Word) (h : s.mem.wf) : (s.write16 a v).mem.wf :=
  Memory.write_wf _ _ _ (Memory.write_wf _ _ _ h)

theorem State.push_wf (s : State) (v : Word) (h : s.mem.wf) : (s.push v).mem.wf :=
  State.write16_wf (s.setSp (s.sp - 2)) (s.sp - 2) v h

theorem State.assignPlace_wf (s : State) (o : BytePlace) (v : Byte) (h : s.mem.wf) :
    (s.assignPlace o v).mem.wf := by
  cases o <;> simp only [State.assignPlace, State.incHl_mem, State.decHl_mem, State.setReg_mem] <;>
    first | exact h | exact State.write8_wf _ _ _ h

theorem State.assignShortPlace_wf (s : State) (o : ShortPlace) (v : Word) (h : s.mem.wf) :
    (s.assignShortPlace o v).mem.wf := by
  cases o <;> simpa [State.assignShortPlace] using h

theorem State.bootstrap_wf (image : List Byte) (s : State) (h : s.mem.wf) :
    (bootstrap image s).mem.wf := Memory.place_wf _ _ _ h

theorem State.hostWrite_wf (w : HostWrite) (s : State) (h : s.mem.wf) : (hostWrite w s).mem.wf := by
  cases w with
  | reg r v => simpa [hostWrite] using h
  | sp v => exact h
  | pc v => exact h
  | mem a v => exact State.write8_wf _ _ _ h

theorem State.placeTableWord_wf (s : State) (nbits w : Nat) (h : s.mem.wf) :
    (placeTableWord s nbits w).mem.wf := Memory.place_wf _ _ _ h

/-- Memory is canonical after Reset, whatever the OPEN registers hold. -/
theorem State.resetWith_mem_wf (v : ResetValues) : (State.resetWith v).mem.wf := Memory.nil_wf

end Sys2Proof.Machine
end

