-- ==== Sys2Proof/Laws/Meanings.lean ====
section
/-! SUPPORT. One spec lemma per shared operation of the meanings: what it answers, as a next state. -/

namespace Sys2Proof.Machine

/-! ### Operands -/

@[simp] theorem State.readSource_imm (s : State) (v : Byte) : s.readSource (.imm v) = (v, s) := rfl
@[simp] theorem State.readSource_of (s : State) (o : BytePlace) :
    s.readSource (.of o) = s.readPlace o := rfl
@[simp] theorem State.readPlace_reg (s : State) (r : ByteReg) :
    s.readPlace (.reg r) = (s.reg r, s) := rfl
@[simp] theorem State.readPlace_mem (s : State) (p : Pair) :
    s.readPlace (.mem p) = (s.read8 (s.pair p), s) := rfl
@[simp] theorem State.readPlace_memInc (s : State) :
    s.readPlace .memInc = (s.read8 (s.pair .hl), s.incHl) := rfl
@[simp] theorem State.readPlace_memDec (s : State) :
    s.readPlace .memDec = (s.read8 (s.pair .hl), s.decHl) := rfl
@[simp] theorem State.readPlace_fastImm (s : State) (o : Byte) :
    s.readPlace (.fastImm o) = (s.read8 (fastAddress o), s) := rfl
@[simp] theorem State.readPlace_fastC (s : State) :
    s.readPlace .fastC = (s.read8 (fastAddress s.c), s) := rfl
@[simp] theorem State.readPlace_memAbs (s : State) (a : Word) :
    s.readPlace (.memAbs a) = (s.read8 a, s) := rfl
@[simp] theorem State.assignPlace_reg (s : State) (r : ByteReg) (v : Byte) :
    s.assignPlace (.reg r) v = s.setReg r v := rfl
@[simp] theorem State.assignPlace_mem (s : State) (p : Pair) (v : Byte) :
    s.assignPlace (.mem p) v = s.write8 (s.pair p) v := rfl
@[simp] theorem State.assignPlace_memInc (s : State) (v : Byte) :
    s.assignPlace .memInc v = (s.write8 (s.pair .hl) v).incHl := rfl
@[simp] theorem State.assignPlace_memDec (s : State) (v : Byte) :
    s.assignPlace .memDec v = (s.write8 (s.pair .hl) v).decHl := rfl
@[simp] theorem State.assignPlace_fastImm (s : State) (o v : Byte) :
    s.assignPlace (.fastImm o) v = s.write8 (fastAddress o) v := rfl
@[simp] theorem State.assignPlace_fastC (s : State) (v : Byte) :
    s.assignPlace .fastC v = s.write8 (fastAddress s.c) v := rfl
@[simp] theorem State.assignPlace_memAbs (s : State) (a : Word) (v : Byte) :
    s.assignPlace (.memAbs a) v = s.write8 a v := rfl

/-- The fast page lies at 0xFF00 and does not wrap (20_memory.md R71). -/
theorem fastAddress_toNat (o : Byte) : (fastAddress o).toNat = 0xFF00 + o.toNat := by
  have : ∀ o : Byte, (fastAddress o).toNat = 0xFF00 + o.toNat := by decide +kernel
  exact this o

/-- Incrementing HL is the 16-bit increment of the pair (44_load.md R190). -/
theorem State.pair_incHl (s : State) : s.incHl.pair .hl = s.pair .hl + 1 :=
  joinBytes_hiByte_loByte _

/-- Decrementing HL is the 16-bit decrement of the pair (44_load.md R191). -/
theorem State.pair_decHl (s : State) : s.decHl.pair .hl = s.pair .hl - 1 :=
  joinBytes_hiByte_loByte _

/-- A pair reads back what was written to it (10_state.md R22). -/
theorem State.pair_setPair_same (s : State) (p : Pair) (v : Word) : (s.setPair p v).pair p = v := by
  cases p <;> exact joinBytes_hiByte_loByte v

/-! ### The meanings -/

theorem addA_eq {src : ByteSource} {v : Byte} {s : State} (h : s.readSource src = (v, s)) :
    addA src s = .next { s with a := (opAdd s.a v s).1, f := (opAdd s.a v s).2.f } := by
  simp only [addA, combineA, h]; rfl

theorem subA_eq {src : ByteSource} {v : Byte} {s : State} (h : s.readSource src = (v, s)) :
    subA src s = .next { s with a := (opSub s.a v s).1, f := (opSub s.a v s).2.f } := by
  simp only [subA, combineA, h]; rfl

theorem xorA_eq {src : ByteSource} {v : Byte} {s : State} (h : s.readSource src = (v, s)) :
    xorA src s = .next { s with a := s.a ^^^ v, f := (opXor s.a v s).2.f } := by
  simp only [xorA, combineA, h]; rfl

theorem cpA_eq {src : ByteSource} {v : Byte} {s : State} (h : s.readSource src = (v, s)) :
    cpA src s = .next { s with f := (opSub s.a v s).2.f } := by
  simp only [cpA, h]; rfl

theorem bitTest_eq {n : Fin 8} {src : ByteSource} {v : Byte} {s : State}
    (h : s.readSource src = (v, s)) :
    bitTest n src s = .next { s with f := (opBit n v s).f } := by
  simp only [bitTest, h]; rfl

theorem modifyByte_reg (op : Byte → State → Byte × State) (r : ByteReg) (s : State) :
    modifyByte op (.reg r) s = (op (s.reg r) s).2.setReg r (op (s.reg r) s).1 := rfl

theorem modifyByte_mem (op : Byte → State → Byte × State) (p : Pair) (s : State) :
    modifyByte op (.mem p) s =
      (op (s.read8 (s.pair p)) s).2.write8 ((op (s.read8 (s.pair p)) s).2.pair p)
        (op (s.read8 (s.pair p)) s).1 := rfl

theorem jumpRelative_eq (taken : Bool) (r8 : Byte) (s : State) :
    jumpRelative taken r8 s = .next (if taken then s.setPc (s.pc + sext16 r8) else s) := by
  cases taken <;> rfl

theorem callAbsolute_eq (taken : Bool) (a16 : Word) (s : State) :
    callAbsolute taken a16 s = .next (if taken then (s.push s.pc).setPc a16 else s) := by
  cases taken <;> rfl

theorem returnFrom_eq (taken : Bool) (s : State) :
    returnFrom taken s =
      .next (if taken then (s.setSp (s.sp + 2)).setPc (s.read16 s.sp) else s) := by
  cases taken <;> rfl

theorem copyByte_eq (dst : BytePlace) (src : ByteSource) (s : State) :
    copyByte dst src s = .next ((s.readSource src).2.assignPlace dst (s.readSource src).1) := rfl

theorem copyShort_eq (dst : ShortPlace) (src : ShortSource) (s : State) :
    copyShort dst src s = .next (s.assignShortPlace dst (s.readShortSource src)) := rfl

theorem pushPair_eq (p : Pair) (s : State) : pushPair p s = .next (s.push (s.pair p)) := rfl

theorem popPair_eq (p : Pair) (s : State) :
    popPair p s = .next ((s.setSp (s.sp + 2)).setPair p (s.read16 s.sp)) := rfl

/-! ### The stack -/

/-- What a push leaves in memory: the high byte at the new `sp`, the low byte after it, the rest as it
was (20_memory.md R58). -/
theorem State.read8_push (s : State) (v x : Word) :
    (s.push v).read8 x =
      if x = s.sp - 2 + 1 then loByte v else if x = s.sp - 2 then hiByte v else s.read8 x := by
  show ((s.mem.write (s.sp - 2) (hiByte v)).write (s.sp - 2 + 1) (loByte v)).read x = _
  rw [Memory.read_write, Memory.read_write]; rfl

theorem State.read16_eq (s : State) (a : Word) :
    s.read16 a = joinBytes (s.read8 a) (s.read8 (a + 1)) := rfl

end Sys2Proof.Machine
end

