-- ==== Sys2Proof/Laws/Exec.lean ====
section
/-! SUPPORT. What every form runs, in the shared operations of the meanings, so that a proof about a form
(or about every instruction) never unfolds one of the 255 meanings. -/

namespace Sys2Proof

open Sys2Proof.Machine

/-- The shared operation a form runs on its operands. -/
def Form.meaning : Form → State → Result
  | .addReg r => addA (.of (.reg r.byteReg))
  | .addHl => addA (.of (.mem .hl))
  | .addImm d8 => addA (.imm d8)
  | .subReg r => subA (.of (.reg r.byteReg))
  | .subHl => subA (.of (.mem .hl))
  | .subImm d8 => subA (.imm d8)
  | .xorReg r => xorA (.of (.reg r.byteReg))
  | .xorHl => xorA (.of (.mem .hl))
  | .xorImm d8 => xorA (.imm d8)
  | .cpReg r => cpA (.of (.reg r.byteReg))
  | .cpHl => cpA (.of (.mem .hl))
  | .cpImm d8 => cpA (.imm d8)
  | .incReg r => incByte (.reg r.byteReg)
  | .incMem => incByte (.mem .hl)
  | .decReg r => decByte (.reg r.byteReg)
  | .decMem => decByte (.mem .hl)
  | .incPair p => incShort (.pair p.pair)
  | .decPair p => decShort (.pair p.pair)
  | .incSp => incShort .sp
  | .decSp => decShort .sp
  | .rlca => rotateCircular .zClear (.reg .a)
  | .rla => rotateThroughCarry .zClear (.reg .a)
  | .rlcReg r => rotateCircular .zResult (.reg r.byteReg)
  | .rlcHl => rotateCircular .zResult (.mem .hl)
  | .rlReg r => rotateThroughCarry .zResult (.reg r.byteReg)
  | .rlHl => rotateThroughCarry .zResult (.mem .hl)
  | .bitReg n r => bitTest n (.of (.reg r.byteReg))
  | .bitHl n => bitTest n (.of (.mem .hl))
  | .jr r8 => jumpRelative true r8
  | .jrCond cc r8 => fun s => jumpRelative (s.cond cc) r8 s
  | .call a16 => callAbsolute true a16
  | .callCond cc a16 => fun s => callAbsolute (s.cond cc) a16 s
  | .ret => returnFrom true
  | .retCond cc => fun s => returnFrom (s.cond cc) s
  | .ldReg dst src => copyByte (.reg dst.byteReg) (.of (.reg src.byteReg))
  | .ldRegHl dst => copyByte (.reg dst.byteReg) (.of (.mem .hl))
  | .ldHlReg src => copyByte (.mem .hl) (.of (.reg src.byteReg))
  | .ldRegImm dst d8 => copyByte (.reg dst.byteReg) (.imm d8)
  | .ldHlImm d8 => copyByte (.mem .hl) (.imm d8)
  | .ldABc => copyByte (.reg .a) (.of (.mem .bc))
  | .ldADe => copyByte (.reg .a) (.of (.mem .de))
  | .ldBcA => copyByte (.mem .bc) (.of (.reg .a))
  | .ldDeA => copyByte (.mem .de) (.of (.reg .a))
  | .ldHlIncA => copyByte .memInc (.of (.reg .a))
  | .ldHlDecA => copyByte .memDec (.of (.reg .a))
  | .ldAHlInc => copyByte (.reg .a) (.of .memInc)
  | .ldAHlDec => copyByte (.reg .a) (.of .memDec)
  | .ldhStore a8 => copyByte (.fastImm a8) (.of (.reg .a))
  | .ldhLoad a8 => copyByte (.reg .a) (.of (.fastImm a8))
  | .ldFastCA => copyByte .fastC (.of (.reg .a))
  | .ldAFastC => copyByte (.reg .a) (.of .fastC)
  | .ldAbsA a16 => copyByte (.memAbs a16) (.of (.reg .a))
  | .ldAAbs a16 => copyByte (.reg .a) (.of (.memAbs a16))
  | .ldPairImm p d16 => copyShort (.pair p.pair) (.imm d16)
  | .ldSpImm d16 => copyShort .sp (.imm d16)
  | .ldSpHl => copyShort .sp (.of (.pair .hl))
  | .push p => pushPair p
  | .pop p => popPair p.pair
  | .popAf => popPair .af

theorem exec_bitReg (n : Fin 8) (r : OpReg) :
    exec (Form.bitReg n r).instr = (Form.bitReg n r).meaning := by
  match n with
  | 0 | 1 | 2 | 3 | 4 | 5 | 6 | 7 => cases r <;> rfl

theorem exec_bitHl (n : Fin 8) : exec (Form.bitHl n).instr = (Form.bitHl n).meaning := by
  match n with
  | 0 | 1 | 2 | 3 | 4 | 5 | 6 | 7 => rfl

theorem exec_ldReg (dst src : OpReg) :
    exec (Form.ldReg dst src).instr = (Form.ldReg dst src).meaning := by
  cases dst <;> cases src <;> rfl

/-- `exec` on a form is its shared operation. -/
theorem exec_form (k : Form) : exec k.instr = k.meaning := by
  cases k with
  | bitReg n r => exact exec_bitReg n r
  | bitHl n => exact exec_bitHl n
  | ldReg dst src => exact exec_ldReg dst src
  | addReg r | subReg r | xorReg r | cpReg r | incReg r | decReg r | rlcReg r | rlReg r | ldRegHl r
  | ldHlReg r => cases r <;> rfl
  | ldRegImm r d8 => cases r <;> rfl
  | incPair p | decPair p | pop p => cases p <;> rfl
  | push p => cases p <;> rfl
  | ldPairImm p d16 => cases p <;> rfl
  | jrCond cc r8 => cases cc <;> rfl
  | callCond cc a16 => cases cc <;> rfl
  | retCond cc => cases cc <;> rfl
  | _ => rfl

/-- Every instruction runs the shared operation of its form. -/
theorem exec_eq_meaning (i : Instr) : exec i = i.form.meaning := by
  rw [← exec_form, Instr.instr_form]

end Sys2Proof
end

