-- ==== Sys2Proof/Laws/Fetch.lean ====
section
/-! SUPPORT. Fetch and step: the one equation that says what a fetch finds, in terms of the bytes at
`pc`. -/

namespace Sys2Proof.Machine

/-- What a fetch finds and where it leaves `pc` (30_encoding.md R81, R82; 20_memory.md R56, R57). -/
theorem fetchInstr_eq (s : State) : fetchInstr s =
    if s.read8 s.pc = kaoboy.prefixByte then
      match lookupExtended (s.read8 (s.pc + 1)) with
      | some i => .instr i (s.setPc (s.pc + 2))
      | none => .unknown .extended (s.read8 (s.pc + 1)) (s.setPc (s.pc + 2))
    else
      match lookupStandard (s.read8 s.pc) with
      | some (.plain i) => .instr i (s.setPc (s.pc + 1))
      | some (.imm8 k) => .instr (k (s.read8 (s.pc + 1))) (s.setPc (s.pc + 2))
      | some (.imm16 k) =>
        .instr (k (joinBytes (s.read8 (s.pc + 1)) (s.read8 (s.pc + 2)))) (s.setPc (s.pc + 3))
      | none => .unknown .standard (s.read8 s.pc) (s.setPc (s.pc + 1)) := by
  have h2 : s.pc + 1 + 1 = s.pc + 2 := by rw [BitVec.add_assoc]; rfl
  have h3 : s.pc + 1 + 1 + 1 = s.pc + 3 := by rw [BitVec.add_assoc, BitVec.add_assoc]; rfl
  have e2 : ((s.setPc (s.pc + 1)).setPc (s.pc + 1 + 1)) = s.setPc (s.pc + 2) := by rw [h2]; rfl
  have e3 : (((s.setPc (s.pc + 1)).setPc (s.pc + 1 + 1)).setPc (s.pc + 1 + 1 + 1)) =
      s.setPc (s.pc + 3) := by rw [h3]; rfl
  rw [← e2, ← e3, ← h2]
  show (if s.read8 s.pc = kaoboy.prefixByte then _ else _) = _
  split
  · rfl
  · show (match lookupStandard (s.read8 s.pc) with
      | some e => fetchImmediates e (s.setPc (s.pc + 1))
      | none => Fetched.unknown .standard (s.read8 s.pc) (s.setPc (s.pc + 1))) = _
    cases lookupStandard (s.read8 s.pc) with
    | none => rfl
    | some e => cases e <;> rfl

/-- A step with the latch clear (30_encoding.md R81, 60_exceptions.md R260). -/
theorem step_eq (s : State) (h : s.fault = none) : step s =
    match fetchInstr s with
    | .instr i s => exec i s
    | .unknown table byte s => .next (s.raiseUnknown table byte) := by
  cases s; cases h; rfl

/-- A step with the latch set (60_exceptions.md R261). -/
theorem step_faulted (s : State) (info : FaultInfo) (h : s.fault = some info) :
    step s = .fault (.stepWhileFaulted info.table info.byte) := by
  simp only [step, h]

end Sys2Proof.Machine
end

