-- ==== Sys2Proof/Laws/PerInstr.lean ====
section
/-! SUPPORT. Facts about every instruction as syntax, one lemma per constructor of `Instr`.

`EncodingLength`: the encoding has the length the instruction's format gives (30_encoding.md R82, R95).
The host's case split over the instructions cites these lemmas by constructor. -/

namespace Sys2Proof.Laws

/-- The encoding of an instruction has the length of its format (30_encoding.md R82). -/
def EncodingLength.Statement (i : Instr) : Prop := (encode i).length = i.length

theorem EncodingLength.ldBcD16 (d16 : Word) : EncodingLength.Statement (.ldBcD16 d16) := rfl
theorem EncodingLength.ldMemBcA : EncodingLength.Statement .ldMemBcA := rfl
theorem EncodingLength.incBc : EncodingLength.Statement .incBc := rfl
theorem EncodingLength.incB : EncodingLength.Statement .incB := rfl
theorem EncodingLength.decB : EncodingLength.Statement .decB := rfl
theorem EncodingLength.ldBD8 (d8 : Byte) : EncodingLength.Statement (.ldBD8 d8) := rfl
theorem EncodingLength.rlca : EncodingLength.Statement .rlca := rfl
theorem EncodingLength.ldAMemBc : EncodingLength.Statement .ldAMemBc := rfl
theorem EncodingLength.decBc : EncodingLength.Statement .decBc := rfl
theorem EncodingLength.incC : EncodingLength.Statement .incC := rfl
theorem EncodingLength.decC : EncodingLength.Statement .decC := rfl
theorem EncodingLength.ldCD8 (d8 : Byte) : EncodingLength.Statement (.ldCD8 d8) := rfl
theorem EncodingLength.ldDeD16 (d16 : Word) : EncodingLength.Statement (.ldDeD16 d16) := rfl
theorem EncodingLength.ldMemDeA : EncodingLength.Statement .ldMemDeA := rfl
theorem EncodingLength.incDe : EncodingLength.Statement .incDe := rfl
theorem EncodingLength.incD : EncodingLength.Statement .incD := rfl
theorem EncodingLength.decD : EncodingLength.Statement .decD := rfl
theorem EncodingLength.ldDD8 (d8 : Byte) : EncodingLength.Statement (.ldDD8 d8) := rfl
theorem EncodingLength.rla : EncodingLength.Statement .rla := rfl
theorem EncodingLength.jrR8 (r8 : Byte) : EncodingLength.Statement (.jrR8 r8) := rfl
theorem EncodingLength.ldAMemDe : EncodingLength.Statement .ldAMemDe := rfl
theorem EncodingLength.decDe : EncodingLength.Statement .decDe := rfl
theorem EncodingLength.incE : EncodingLength.Statement .incE := rfl
theorem EncodingLength.decE : EncodingLength.Statement .decE := rfl
theorem EncodingLength.ldED8 (d8 : Byte) : EncodingLength.Statement (.ldED8 d8) := rfl
theorem EncodingLength.jrNzR8 (r8 : Byte) : EncodingLength.Statement (.jrNzR8 r8) := rfl
theorem EncodingLength.ldHlD16 (d16 : Word) : EncodingLength.Statement (.ldHlD16 d16) := rfl
theorem EncodingLength.ldMemHlIncA : EncodingLength.Statement .ldMemHlIncA := rfl
theorem EncodingLength.incHl : EncodingLength.Statement .incHl := rfl
theorem EncodingLength.incH : EncodingLength.Statement .incH := rfl
theorem EncodingLength.decH : EncodingLength.Statement .decH := rfl
theorem EncodingLength.ldHD8 (d8 : Byte) : EncodingLength.Statement (.ldHD8 d8) := rfl
theorem EncodingLength.jrZR8 (r8 : Byte) : EncodingLength.Statement (.jrZR8 r8) := rfl
theorem EncodingLength.ldAMemHlInc : EncodingLength.Statement .ldAMemHlInc := rfl
theorem EncodingLength.decHl : EncodingLength.Statement .decHl := rfl
theorem EncodingLength.incL : EncodingLength.Statement .incL := rfl
theorem EncodingLength.decL : EncodingLength.Statement .decL := rfl
theorem EncodingLength.ldLD8 (d8 : Byte) : EncodingLength.Statement (.ldLD8 d8) := rfl
theorem EncodingLength.jrNcR8 (r8 : Byte) : EncodingLength.Statement (.jrNcR8 r8) := rfl
theorem EncodingLength.ldSpD16 (d16 : Word) : EncodingLength.Statement (.ldSpD16 d16) := rfl
theorem EncodingLength.ldMemHlDecA : EncodingLength.Statement .ldMemHlDecA := rfl
theorem EncodingLength.incSp : EncodingLength.Statement .incSp := rfl
theorem EncodingLength.incMemHl : EncodingLength.Statement .incMemHl := rfl
theorem EncodingLength.decMemHl : EncodingLength.Statement .decMemHl := rfl
theorem EncodingLength.ldMemHlD8 (d8 : Byte) : EncodingLength.Statement (.ldMemHlD8 d8) := rfl
theorem EncodingLength.jrCR8 (r8 : Byte) : EncodingLength.Statement (.jrCR8 r8) := rfl
theorem EncodingLength.ldAMemHlDec : EncodingLength.Statement .ldAMemHlDec := rfl
theorem EncodingLength.decSp : EncodingLength.Statement .decSp := rfl
theorem EncodingLength.incA : EncodingLength.Statement .incA := rfl
theorem EncodingLength.decA : EncodingLength.Statement .decA := rfl
theorem EncodingLength.ldAD8 (d8 : Byte) : EncodingLength.Statement (.ldAD8 d8) := rfl
theorem EncodingLength.ldBB : EncodingLength.Statement .ldBB := rfl
theorem EncodingLength.ldBC : EncodingLength.Statement .ldBC := rfl
theorem EncodingLength.ldBD : EncodingLength.Statement .ldBD := rfl
theorem EncodingLength.ldBE : EncodingLength.Statement .ldBE := rfl
theorem EncodingLength.ldBH : EncodingLength.Statement .ldBH := rfl
theorem EncodingLength.ldBL : EncodingLength.Statement .ldBL := rfl
theorem EncodingLength.ldBMemHl : EncodingLength.Statement .ldBMemHl := rfl
theorem EncodingLength.ldBA : EncodingLength.Statement .ldBA := rfl
theorem EncodingLength.ldCB : EncodingLength.Statement .ldCB := rfl
theorem EncodingLength.ldCC : EncodingLength.Statement .ldCC := rfl
theorem EncodingLength.ldCD : EncodingLength.Statement .ldCD := rfl
theorem EncodingLength.ldCE : EncodingLength.Statement .ldCE := rfl
theorem EncodingLength.ldCH : EncodingLength.Statement .ldCH := rfl
theorem EncodingLength.ldCL : EncodingLength.Statement .ldCL := rfl
theorem EncodingLength.ldCMemHl : EncodingLength.Statement .ldCMemHl := rfl
theorem EncodingLength.ldCA : EncodingLength.Statement .ldCA := rfl
theorem EncodingLength.ldDB : EncodingLength.Statement .ldDB := rfl
theorem EncodingLength.ldDC : EncodingLength.Statement .ldDC := rfl
theorem EncodingLength.ldDD : EncodingLength.Statement .ldDD := rfl
theorem EncodingLength.ldDE : EncodingLength.Statement .ldDE := rfl
theorem EncodingLength.ldDH : EncodingLength.Statement .ldDH := rfl
theorem EncodingLength.ldDL : EncodingLength.Statement .ldDL := rfl
theorem EncodingLength.ldDMemHl : EncodingLength.Statement .ldDMemHl := rfl
theorem EncodingLength.ldDA : EncodingLength.Statement .ldDA := rfl
theorem EncodingLength.ldEB : EncodingLength.Statement .ldEB := rfl
theorem EncodingLength.ldEC : EncodingLength.Statement .ldEC := rfl
theorem EncodingLength.ldED : EncodingLength.Statement .ldED := rfl
theorem EncodingLength.ldEE : EncodingLength.Statement .ldEE := rfl
theorem EncodingLength.ldEH : EncodingLength.Statement .ldEH := rfl
theorem EncodingLength.ldEL : EncodingLength.Statement .ldEL := rfl
theorem EncodingLength.ldEMemHl : EncodingLength.Statement .ldEMemHl := rfl
theorem EncodingLength.ldEA : EncodingLength.Statement .ldEA := rfl
theorem EncodingLength.ldHB : EncodingLength.Statement .ldHB := rfl
theorem EncodingLength.ldHC : EncodingLength.Statement .ldHC := rfl
theorem EncodingLength.ldHD : EncodingLength.Statement .ldHD := rfl
theorem EncodingLength.ldHE : EncodingLength.Statement .ldHE := rfl
theorem EncodingLength.ldHH : EncodingLength.Statement .ldHH := rfl
theorem EncodingLength.ldHL : EncodingLength.Statement .ldHL := rfl
theorem EncodingLength.ldHMemHl : EncodingLength.Statement .ldHMemHl := rfl
theorem EncodingLength.ldHA : EncodingLength.Statement .ldHA := rfl
theorem EncodingLength.ldLB : EncodingLength.Statement .ldLB := rfl
theorem EncodingLength.ldLC : EncodingLength.Statement .ldLC := rfl
theorem EncodingLength.ldLD : EncodingLength.Statement .ldLD := rfl
theorem EncodingLength.ldLE : EncodingLength.Statement .ldLE := rfl
theorem EncodingLength.ldLH : EncodingLength.Statement .ldLH := rfl
theorem EncodingLength.ldLL : EncodingLength.Statement .ldLL := rfl
theorem EncodingLength.ldLMemHl : EncodingLength.Statement .ldLMemHl := rfl
theorem EncodingLength.ldLA : EncodingLength.Statement .ldLA := rfl
theorem EncodingLength.ldMemHlB : EncodingLength.Statement .ldMemHlB := rfl
theorem EncodingLength.ldMemHlC : EncodingLength.Statement .ldMemHlC := rfl
theorem EncodingLength.ldMemHlD : EncodingLength.Statement .ldMemHlD := rfl
theorem EncodingLength.ldMemHlE : EncodingLength.Statement .ldMemHlE := rfl
theorem EncodingLength.ldMemHlH : EncodingLength.Statement .ldMemHlH := rfl
theorem EncodingLength.ldMemHlL : EncodingLength.Statement .ldMemHlL := rfl
theorem EncodingLength.ldMemHlA : EncodingLength.Statement .ldMemHlA := rfl
theorem EncodingLength.ldAB : EncodingLength.Statement .ldAB := rfl
theorem EncodingLength.ldAC : EncodingLength.Statement .ldAC := rfl
theorem EncodingLength.ldAD : EncodingLength.Statement .ldAD := rfl
theorem EncodingLength.ldAE : EncodingLength.Statement .ldAE := rfl
theorem EncodingLength.ldAH : EncodingLength.Statement .ldAH := rfl
theorem EncodingLength.ldAL : EncodingLength.Statement .ldAL := rfl
theorem EncodingLength.ldAMemHl : EncodingLength.Statement .ldAMemHl := rfl
theorem EncodingLength.ldAA : EncodingLength.Statement .ldAA := rfl
theorem EncodingLength.addAB : EncodingLength.Statement .addAB := rfl
theorem EncodingLength.addAC : EncodingLength.Statement .addAC := rfl
theorem EncodingLength.addAD : EncodingLength.Statement .addAD := rfl
theorem EncodingLength.addAE : EncodingLength.Statement .addAE := rfl
theorem EncodingLength.addAH : EncodingLength.Statement .addAH := rfl
theorem EncodingLength.addAL : EncodingLength.Statement .addAL := rfl
theorem EncodingLength.addAMemHl : EncodingLength.Statement .addAMemHl := rfl
theorem EncodingLength.addAA : EncodingLength.Statement .addAA := rfl
theorem EncodingLength.subB : EncodingLength.Statement .subB := rfl
theorem EncodingLength.subC : EncodingLength.Statement .subC := rfl
theorem EncodingLength.subD : EncodingLength.Statement .subD := rfl
theorem EncodingLength.subE : EncodingLength.Statement .subE := rfl
theorem EncodingLength.subH : EncodingLength.Statement .subH := rfl
theorem EncodingLength.subL : EncodingLength.Statement .subL := rfl
theorem EncodingLength.subMemHl : EncodingLength.Statement .subMemHl := rfl
theorem EncodingLength.subA : EncodingLength.Statement .subA := rfl
theorem EncodingLength.xorB : EncodingLength.Statement .xorB := rfl
theorem EncodingLength.xorC : EncodingLength.Statement .xorC := rfl
theorem EncodingLength.xorD : EncodingLength.Statement .xorD := rfl
theorem EncodingLength.xorE : EncodingLength.Statement .xorE := rfl
theorem EncodingLength.xorH : EncodingLength.Statement .xorH := rfl
theorem EncodingLength.xorL : EncodingLength.Statement .xorL := rfl
theorem EncodingLength.xorMemHl : EncodingLength.Statement .xorMemHl := rfl
theorem EncodingLength.xorA : EncodingLength.Statement .xorA := rfl
theorem EncodingLength.cpB : EncodingLength.Statement .cpB := rfl
theorem EncodingLength.cpC : EncodingLength.Statement .cpC := rfl
theorem EncodingLength.cpD : EncodingLength.Statement .cpD := rfl
theorem EncodingLength.cpE : EncodingLength.Statement .cpE := rfl
theorem EncodingLength.cpH : EncodingLength.Statement .cpH := rfl
theorem EncodingLength.cpL : EncodingLength.Statement .cpL := rfl
theorem EncodingLength.cpMemHl : EncodingLength.Statement .cpMemHl := rfl
theorem EncodingLength.cpA : EncodingLength.Statement .cpA := rfl
theorem EncodingLength.retNz : EncodingLength.Statement .retNz := rfl
theorem EncodingLength.popBc : EncodingLength.Statement .popBc := rfl
theorem EncodingLength.callNzA16 (a16 : Word) : EncodingLength.Statement (.callNzA16 a16) := rfl
theorem EncodingLength.pushBc : EncodingLength.Statement .pushBc := rfl
theorem EncodingLength.addAD8 (d8 : Byte) : EncodingLength.Statement (.addAD8 d8) := rfl
theorem EncodingLength.retZ : EncodingLength.Statement .retZ := rfl
theorem EncodingLength.ret : EncodingLength.Statement .ret := rfl
theorem EncodingLength.callZA16 (a16 : Word) : EncodingLength.Statement (.callZA16 a16) := rfl
theorem EncodingLength.callA16 (a16 : Word) : EncodingLength.Statement (.callA16 a16) := rfl
theorem EncodingLength.retNc : EncodingLength.Statement .retNc := rfl
theorem EncodingLength.popDe : EncodingLength.Statement .popDe := rfl
theorem EncodingLength.callNcA16 (a16 : Word) : EncodingLength.Statement (.callNcA16 a16) := rfl
theorem EncodingLength.pushDe : EncodingLength.Statement .pushDe := rfl
theorem EncodingLength.subD8 (d8 : Byte) : EncodingLength.Statement (.subD8 d8) := rfl
theorem EncodingLength.retC : EncodingLength.Statement .retC := rfl
theorem EncodingLength.callCA16 (a16 : Word) : EncodingLength.Statement (.callCA16 a16) := rfl
theorem EncodingLength.ldhMemA8A (a8 : Byte) : EncodingLength.Statement (.ldhMemA8A a8) := rfl
theorem EncodingLength.popHl : EncodingLength.Statement .popHl := rfl
theorem EncodingLength.ldMemCA : EncodingLength.Statement .ldMemCA := rfl
theorem EncodingLength.pushHl : EncodingLength.Statement .pushHl := rfl
theorem EncodingLength.ldMemA16A (a16 : Word) : EncodingLength.Statement (.ldMemA16A a16) := rfl
theorem EncodingLength.xorD8 (d8 : Byte) : EncodingLength.Statement (.xorD8 d8) := rfl
theorem EncodingLength.ldhAMemA8 (a8 : Byte) : EncodingLength.Statement (.ldhAMemA8 a8) := rfl
theorem EncodingLength.popAf : EncodingLength.Statement .popAf := rfl
theorem EncodingLength.ldAMemC : EncodingLength.Statement .ldAMemC := rfl
theorem EncodingLength.pushAf : EncodingLength.Statement .pushAf := rfl
theorem EncodingLength.ldSpHl : EncodingLength.Statement .ldSpHl := rfl
theorem EncodingLength.ldAMemA16 (a16 : Word) : EncodingLength.Statement (.ldAMemA16 a16) := rfl
theorem EncodingLength.cpD8 (d8 : Byte) : EncodingLength.Statement (.cpD8 d8) := rfl
theorem EncodingLength.rlcB : EncodingLength.Statement .rlcB := rfl
theorem EncodingLength.rlcC : EncodingLength.Statement .rlcC := rfl
theorem EncodingLength.rlcD : EncodingLength.Statement .rlcD := rfl
theorem EncodingLength.rlcE : EncodingLength.Statement .rlcE := rfl
theorem EncodingLength.rlcH : EncodingLength.Statement .rlcH := rfl
theorem EncodingLength.rlcL : EncodingLength.Statement .rlcL := rfl
theorem EncodingLength.rlcMemHl : EncodingLength.Statement .rlcMemHl := rfl
theorem EncodingLength.rlcA : EncodingLength.Statement .rlcA := rfl
theorem EncodingLength.rlB : EncodingLength.Statement .rlB := rfl
theorem EncodingLength.rlC : EncodingLength.Statement .rlC := rfl
theorem EncodingLength.rlD : EncodingLength.Statement .rlD := rfl
theorem EncodingLength.rlE : EncodingLength.Statement .rlE := rfl
theorem EncodingLength.rlH : EncodingLength.Statement .rlH := rfl
theorem EncodingLength.rlL : EncodingLength.Statement .rlL := rfl
theorem EncodingLength.rlMemHl : EncodingLength.Statement .rlMemHl := rfl
theorem EncodingLength.rlA : EncodingLength.Statement .rlA := rfl
theorem EncodingLength.bit0B : EncodingLength.Statement .bit0B := rfl
theorem EncodingLength.bit0C : EncodingLength.Statement .bit0C := rfl
theorem EncodingLength.bit0D : EncodingLength.Statement .bit0D := rfl
theorem EncodingLength.bit0E : EncodingLength.Statement .bit0E := rfl
theorem EncodingLength.bit0H : EncodingLength.Statement .bit0H := rfl
theorem EncodingLength.bit0L : EncodingLength.Statement .bit0L := rfl
theorem EncodingLength.bit0MemHl : EncodingLength.Statement .bit0MemHl := rfl
theorem EncodingLength.bit0A : EncodingLength.Statement .bit0A := rfl
theorem EncodingLength.bit1B : EncodingLength.Statement .bit1B := rfl
theorem EncodingLength.bit1C : EncodingLength.Statement .bit1C := rfl
theorem EncodingLength.bit1D : EncodingLength.Statement .bit1D := rfl
theorem EncodingLength.bit1E : EncodingLength.Statement .bit1E := rfl
theorem EncodingLength.bit1H : EncodingLength.Statement .bit1H := rfl
theorem EncodingLength.bit1L : EncodingLength.Statement .bit1L := rfl
theorem EncodingLength.bit1MemHl : EncodingLength.Statement .bit1MemHl := rfl
theorem EncodingLength.bit1A : EncodingLength.Statement .bit1A := rfl
theorem EncodingLength.bit2B : EncodingLength.Statement .bit2B := rfl
theorem EncodingLength.bit2C : EncodingLength.Statement .bit2C := rfl
theorem EncodingLength.bit2D : EncodingLength.Statement .bit2D := rfl
theorem EncodingLength.bit2E : EncodingLength.Statement .bit2E := rfl
theorem EncodingLength.bit2H : EncodingLength.Statement .bit2H := rfl
theorem EncodingLength.bit2L : EncodingLength.Statement .bit2L := rfl
theorem EncodingLength.bit2MemHl : EncodingLength.Statement .bit2MemHl := rfl
theorem EncodingLength.bit2A : EncodingLength.Statement .bit2A := rfl
theorem EncodingLength.bit3B : EncodingLength.Statement .bit3B := rfl
theorem EncodingLength.bit3C : EncodingLength.Statement .bit3C := rfl
theorem EncodingLength.bit3D : EncodingLength.Statement .bit3D := rfl
theorem EncodingLength.bit3E : EncodingLength.Statement .bit3E := rfl
theorem EncodingLength.bit3H : EncodingLength.Statement .bit3H := rfl
theorem EncodingLength.bit3L : EncodingLength.Statement .bit3L := rfl
theorem EncodingLength.bit3MemHl : EncodingLength.Statement .bit3MemHl := rfl
theorem EncodingLength.bit3A : EncodingLength.Statement .bit3A := rfl
theorem EncodingLength.bit4B : EncodingLength.Statement .bit4B := rfl
theorem EncodingLength.bit4C : EncodingLength.Statement .bit4C := rfl
theorem EncodingLength.bit4D : EncodingLength.Statement .bit4D := rfl
theorem EncodingLength.bit4E : EncodingLength.Statement .bit4E := rfl
theorem EncodingLength.bit4H : EncodingLength.Statement .bit4H := rfl
theorem EncodingLength.bit4L : EncodingLength.Statement .bit4L := rfl
theorem EncodingLength.bit4MemHl : EncodingLength.Statement .bit4MemHl := rfl
theorem EncodingLength.bit4A : EncodingLength.Statement .bit4A := rfl
theorem EncodingLength.bit5B : EncodingLength.Statement .bit5B := rfl
theorem EncodingLength.bit5C : EncodingLength.Statement .bit5C := rfl
theorem EncodingLength.bit5D : EncodingLength.Statement .bit5D := rfl
theorem EncodingLength.bit5E : EncodingLength.Statement .bit5E := rfl
theorem EncodingLength.bit5H : EncodingLength.Statement .bit5H := rfl
theorem EncodingLength.bit5L : EncodingLength.Statement .bit5L := rfl
theorem EncodingLength.bit5MemHl : EncodingLength.Statement .bit5MemHl := rfl
theorem EncodingLength.bit5A : EncodingLength.Statement .bit5A := rfl
theorem EncodingLength.bit6B : EncodingLength.Statement .bit6B := rfl
theorem EncodingLength.bit6C : EncodingLength.Statement .bit6C := rfl
theorem EncodingLength.bit6D : EncodingLength.Statement .bit6D := rfl
theorem EncodingLength.bit6E : EncodingLength.Statement .bit6E := rfl
theorem EncodingLength.bit6H : EncodingLength.Statement .bit6H := rfl
theorem EncodingLength.bit6L : EncodingLength.Statement .bit6L := rfl
theorem EncodingLength.bit6MemHl : EncodingLength.Statement .bit6MemHl := rfl
theorem EncodingLength.bit6A : EncodingLength.Statement .bit6A := rfl
theorem EncodingLength.bit7B : EncodingLength.Statement .bit7B := rfl
theorem EncodingLength.bit7C : EncodingLength.Statement .bit7C := rfl
theorem EncodingLength.bit7D : EncodingLength.Statement .bit7D := rfl
theorem EncodingLength.bit7E : EncodingLength.Statement .bit7E := rfl
theorem EncodingLength.bit7H : EncodingLength.Statement .bit7H := rfl
theorem EncodingLength.bit7L : EncodingLength.Statement .bit7L := rfl
theorem EncodingLength.bit7MemHl : EncodingLength.Statement .bit7MemHl := rfl
theorem EncodingLength.bit7A : EncodingLength.Statement .bit7A := rfl

end Sys2Proof.Laws
end

