-- ==== Sys2Proof/Tests/Slice0.lean ====
section
/-! SUPPORT. The model's own tests. Words are written out bit by bit from the patterns of 30_encoding.md R92
and R93; the results are those of 95_test_vectors.md, under its row names, or are worked out from the rule
a docstring cites. Last come the witnesses: for every obligation with hypotheses, data that meets them. -/

namespace Sys2Proof.Tests

open Sys2Proof.Machine Sys2Proof.Claims

/-- The start state of 95_test_vectors.md (Conventions). -/
def base : State := { State.reset with sp := 0xD000, pc := 0x0100 }

/-- Put the instruction's bytes at `pc` and the row's memory bytes at their addresses. -/
def load (s : State) (bytes : List Byte) (cells : List (Word × Byte)) : State :=
  cells.foldl (fun s c => s.write8 c.1 c.2) { s with mem := s.mem.place s.pc bytes }

/-- One step from the start state answers a next state with property `p`. -/
def after (s : State) (bytes : List Byte) (cells : List (Word × Byte)) (p : State → Bool) : Bool :=
  match step (load s bytes cells) with
  | .next t => p t
  | .fault _ => false
  | .refused _ => false

/-- Each word decodes to the instruction it stands for, with nothing left over. -/
def allDecode (words : List (Instr × List Byte)) : Bool :=
  words.all fun w => decide (decode w.2 = .ok (w.1, []))

/-- The events of 144 visible lines. -/
def allLines : List RenderEvent := (List.range 144).map .scanline

/-! ### Well-formedness -/

/-- An image of one byte too many is not well formed (70_reset_and_hazards.md R293). -/
theorem test_imageTooLong : imageWellFormed (List.replicate 65537 0x00) = false := by
  simp only [imageWellFormed, List.length_replicate]; decide

/-- The longest image is well formed (70_reset_and_hazards.md R293). -/
theorem test_imageLongest : imageWellFormed (List.replicate 65536 0x00) = true := by
  simp only [imageWellFormed, List.length_replicate]; decide

/-! ### Decoding: every constructor's word -/

theorem test_decodeAdd : allDecode
    [(.addAB, [0b10000000]), (.addAC, [0b10000001]), (.addAD, [0b10000010]), (.addAE, [0b10000011]),
     (.addAH, [0b10000100]), (.addAL, [0b10000101]), (.addAA, [0b10000111]),
     (.addAMemHl, [0b10000110]), (.addAD8 0xA7, [0b11000110, 0xA7])] = true := by
  decide

theorem test_decodeSub : allDecode
    [(.subB, [0b10010000]), (.subC, [0b10010001]), (.subD, [0b10010010]), (.subE, [0b10010011]),
     (.subH, [0b10010100]), (.subL, [0b10010101]), (.subA, [0b10010111]), (.subMemHl, [0b10010110]),
     (.subD8 0xA7, [0b11010110, 0xA7])] = true := by
  decide

theorem test_decodeXor : allDecode
    [(.xorB, [0b10101000]), (.xorC, [0b10101001]), (.xorD, [0b10101010]), (.xorE, [0b10101011]),
     (.xorH, [0b10101100]), (.xorL, [0b10101101]), (.xorA, [0b10101111]), (.xorMemHl, [0b10101110]),
     (.xorD8 0xA7, [0b11101110, 0xA7])] = true := by
  decide

theorem test_decodeCp : allDecode
    [(.cpB, [0b10111000]), (.cpC, [0b10111001]), (.cpD, [0b10111010]), (.cpE, [0b10111011]),
     (.cpH, [0b10111100]), (.cpL, [0b10111101]), (.cpA, [0b10111111]), (.cpMemHl, [0b10111110]),
     (.cpD8 0xA7, [0b11111110, 0xA7])] = true := by
  decide

theorem test_decodeInc : allDecode
    [(.incB, [0b00000100]), (.incC, [0b00001100]), (.incD, [0b00010100]), (.incE, [0b00011100]),
     (.incH, [0b00100100]), (.incL, [0b00101100]), (.incA, [0b00111100]), (.incMemHl, [0b00110100]),
     (.incBc, [0b00000011]), (.incDe, [0b00010011]), (.incHl, [0b00100011]),
     (.incSp, [0b00110011])] = true := by
  decide

theorem test_decodeDec : allDecode
    [(.decB, [0b00000101]), (.decC, [0b00001101]), (.decD, [0b00010101]), (.decE, [0b00011101]),
     (.decH, [0b00100101]), (.decL, [0b00101101]), (.decA, [0b00111101]), (.decMemHl, [0b00110101]),
     (.decBc, [0b00001011]), (.decDe, [0b00011011]), (.decHl, [0b00101011]),
     (.decSp, [0b00111011])] = true := by
  decide

theorem test_decodeRotate : allDecode
    [(.rlca, [0b00000111]), (.rla, [0b00010111]), (.rlcB, [0b11001011, 0b00000000]),
     (.rlcC, [0b11001011, 0b00000001]), (.rlcD, [0b11001011, 0b00000010]),
     (.rlcE, [0b11001011, 0b00000011]), (.rlcH, [0b11001011, 0b00000100]),
     (.rlcL, [0b11001011, 0b00000101]), (.rlcA, [0b11001011, 0b00000111]),
     (.rlcMemHl, [0b11001011, 0b00000110]), (.rlB, [0b11001011, 0b00010000]),
     (.rlC, [0b11001011, 0b00010001]), (.rlD, [0b11001011, 0b00010010]),
     (.rlE, [0b11001011, 0b00010011]), (.rlH, [0b11001011, 0b00010100]),
     (.rlL, [0b11001011, 0b00010101]), (.rlA, [0b11001011, 0b00010111]),
     (.rlMemHl, [0b11001011, 0b00010110])] = true := by
  decide

theorem test_decodeBit01 : allDecode
    [(.bit0B, [0b11001011, 0b01000000]), (.bit0C, [0b11001011, 0b01000001]),
     (.bit0D, [0b11001011, 0b01000010]), (.bit0E, [0b11001011, 0b01000011]),
     (.bit0H, [0b11001011, 0b01000100]), (.bit0L, [0b11001011, 0b01000101]),
     (.bit0A, [0b11001011, 0b01000111]), (.bit0MemHl, [0b11001011, 0b01000110]),
     (.bit1B, [0b11001011, 0b01001000]), (.bit1C, [0b11001011, 0b01001001]),
     (.bit1D, [0b11001011, 0b01001010]), (.bit1E, [0b11001011, 0b01001011]),
     (.bit1H, [0b11001011, 0b01001100]), (.bit1L, [0b11001011, 0b01001101]),
     (.bit1A, [0b11001011, 0b01001111]), (.bit1MemHl, [0b11001011, 0b01001110])] = true := by
  decide

theorem test_decodeBit23 : allDecode
    [(.bit2B, [0b11001011, 0b01010000]), (.bit2C, [0b11001011, 0b01010001]),
     (.bit2D, [0b11001011, 0b01010010]), (.bit2E, [0b11001011, 0b01010011]),
     (.bit2H, [0b11001011, 0b01010100]), (.bit2L, [0b11001011, 0b01010101]),
     (.bit2A, [0b11001011, 0b01010111]), (.bit2MemHl, [0b11001011, 0b01010110]),
     (.bit3B, [0b11001011, 0b01011000]), (.bit3C, [0b11001011, 0b01011001]),
     (.bit3D, [0b11001011, 0b01011010]), (.bit3E, [0b11001011, 0b01011011]),
     (.bit3H, [0b11001011, 0b01011100]), (.bit3L, [0b11001011, 0b01011101]),
     (.bit3A, [0b11001011, 0b01011111]), (.bit3MemHl, [0b11001011, 0b01011110])] = true := by
  decide

theorem test_decodeBit45 : allDecode
    [(.bit4B, [0b11001011, 0b01100000]), (.bit4C, [0b11001011, 0b01100001]),
     (.bit4D, [0b11001011, 0b01100010]), (.bit4E, [0b11001011, 0b01100011]),
     (.bit4H, [0b11001011, 0b01100100]), (.bit4L, [0b11001011, 0b01100101]),
     (.bit4A, [0b11001011, 0b01100111]), (.bit4MemHl, [0b11001011, 0b01100110]),
     (.bit5B, [0b11001011, 0b01101000]), (.bit5C, [0b11001011, 0b01101001]),
     (.bit5D, [0b11001011, 0b01101010]), (.bit5E, [0b11001011, 0b01101011]),
     (.bit5H, [0b11001011, 0b01101100]), (.bit5L, [0b11001011, 0b01101101]),
     (.bit5A, [0b11001011, 0b01101111]), (.bit5MemHl, [0b11001011, 0b01101110])] = true := by
  decide

theorem test_decodeBit67 : allDecode
    [(.bit6B, [0b11001011, 0b01110000]), (.bit6C, [0b11001011, 0b01110001]),
     (.bit6D, [0b11001011, 0b01110010]), (.bit6E, [0b11001011, 0b01110011]),
     (.bit6H, [0b11001011, 0b01110100]), (.bit6L, [0b11001011, 0b01110101]),
     (.bit6A, [0b11001011, 0b01110111]), (.bit6MemHl, [0b11001011, 0b01110110]),
     (.bit7B, [0b11001011, 0b01111000]), (.bit7C, [0b11001011, 0b01111001]),
     (.bit7D, [0b11001011, 0b01111010]), (.bit7E, [0b11001011, 0b01111011]),
     (.bit7H, [0b11001011, 0b01111100]), (.bit7L, [0b11001011, 0b01111101]),
     (.bit7A, [0b11001011, 0b01111111]), (.bit7MemHl, [0b11001011, 0b01111110])] = true := by
  decide

theorem test_decodeJump : allDecode
    [(.jrR8 0xFB, [0b00011000, 0xFB]), (.jrNzR8 0xFB, [0b00100000, 0xFB]),
     (.jrZR8 0xFB, [0b00101000, 0xFB]), (.jrNcR8 0xFB, [0b00110000, 0xFB]),
     (.jrCR8 0xFB, [0b00111000, 0xFB]), (.callA16 0x1234, [0b11001101, 0x12, 0x34]),
     (.callNzA16 0x1234, [0b11000100, 0x12, 0x34]), (.callZA16 0x1234, [0b11001100, 0x12, 0x34]),
     (.callNcA16 0x1234, [0b11010100, 0x12, 0x34]), (.callCA16 0x1234, [0b11011100, 0x12, 0x34]),
     (.ret, [0b11001001]), (.retNz, [0b11000000]), (.retZ, [0b11001000]), (.retNc, [0b11010000]),
     (.retC, [0b11011000])] = true := by
  decide

theorem test_decodeLdRegBCD : allDecode
    [(.ldBB, [0b01000000]), (.ldBC, [0b01000001]), (.ldBD, [0b01000010]), (.ldBE, [0b01000011]),
     (.ldBH, [0b01000100]), (.ldBL, [0b01000101]), (.ldBA, [0b01000111]), (.ldCB, [0b01001000]),
     (.ldCC, [0b01001001]), (.ldCD, [0b01001010]), (.ldCE, [0b01001011]), (.ldCH, [0b01001100]),
     (.ldCL, [0b01001101]), (.ldCA, [0b01001111]), (.ldDB, [0b01010000]), (.ldDC, [0b01010001]),
     (.ldDD, [0b01010010]), (.ldDE, [0b01010011]), (.ldDH, [0b01010100]), (.ldDL, [0b01010101]),
     (.ldDA, [0b01010111])] = true := by
  decide

theorem test_decodeLdRegEHLA : allDecode
    [(.ldEB, [0b01011000]), (.ldEC, [0b01011001]), (.ldED, [0b01011010]), (.ldEE, [0b01011011]),
     (.ldEH, [0b01011100]), (.ldEL, [0b01011101]), (.ldEA, [0b01011111]), (.ldHB, [0b01100000]),
     (.ldHC, [0b01100001]), (.ldHD, [0b01100010]), (.ldHE, [0b01100011]), (.ldHH, [0b01100100]),
     (.ldHL, [0b01100101]), (.ldHA, [0b01100111]), (.ldLB, [0b01101000]), (.ldLC, [0b01101001]),
     (.ldLD, [0b01101010]), (.ldLE, [0b01101011]), (.ldLH, [0b01101100]), (.ldLL, [0b01101101]),
     (.ldLA, [0b01101111]), (.ldAB, [0b01111000]), (.ldAC, [0b01111001]), (.ldAD, [0b01111010]),
     (.ldAE, [0b01111011]), (.ldAH, [0b01111100]), (.ldAL, [0b01111101]),
     (.ldAA, [0b01111111])] = true := by
  decide

theorem test_decodeLdMem : allDecode
    [(.ldBMemHl, [0b01000110]), (.ldCMemHl, [0b01001110]), (.ldDMemHl, [0b01010110]),
     (.ldEMemHl, [0b01011110]), (.ldHMemHl, [0b01100110]), (.ldLMemHl, [0b01101110]),
     (.ldAMemHl, [0b01111110]), (.ldMemHlB, [0b01110000]), (.ldMemHlC, [0b01110001]),
     (.ldMemHlD, [0b01110010]), (.ldMemHlE, [0b01110011]), (.ldMemHlH, [0b01110100]),
     (.ldMemHlL, [0b01110101]), (.ldMemHlA, [0b01110111])] = true := by
  decide

theorem test_decodeLdImm : allDecode
    [(.ldBD8 0xA7, [0b00000110, 0xA7]), (.ldCD8 0xA7, [0b00001110, 0xA7]),
     (.ldDD8 0xA7, [0b00010110, 0xA7]), (.ldED8 0xA7, [0b00011110, 0xA7]),
     (.ldHD8 0xA7, [0b00100110, 0xA7]), (.ldLD8 0xA7, [0b00101110, 0xA7]),
     (.ldAD8 0xA7, [0b00111110, 0xA7]), (.ldMemHlD8 0xA7, [0b00110110, 0xA7]),
     (.ldBcD16 0x1234, [0b00000001, 0x12, 0x34]), (.ldDeD16 0x1234, [0b00010001, 0x12, 0x34]),
     (.ldHlD16 0x1234, [0b00100001, 0x12, 0x34]),
     (.ldSpD16 0x1234, [0b00110001, 0x12, 0x34])] = true := by
  decide

theorem test_decodeLdOther : allDecode
    [(.ldMemBcA, [0b00000010]), (.ldMemDeA, [0b00010010]), (.ldMemHlIncA, [0b00100010]),
     (.ldMemHlDecA, [0b00110010]), (.ldAMemBc, [0b00001010]), (.ldAMemDe, [0b00011010]),
     (.ldAMemHlInc, [0b00101010]), (.ldAMemHlDec, [0b00111010]), (.ldMemCA, [0b11100010]),
     (.ldAMemC, [0b11110010]), (.ldSpHl, [0b11111001]), (.ldhMemA8A 0xA7, [0b11100000, 0xA7]),
     (.ldhAMemA8 0xA7, [0b11110000, 0xA7]), (.ldMemA16A 0x1234, [0b11101010, 0x12, 0x34]),
     (.ldAMemA16 0x1234, [0b11111010, 0x12, 0x34])] = true := by
  decide

theorem test_decodeStack : allDecode
    [(.popBc, [0b11000001]), (.popDe, [0b11010001]), (.popHl, [0b11100001]), (.popAf, [0b11110001]),
     (.pushBc, [0b11000101]), (.pushDe, [0b11010101]), (.pushHl, [0b11100101]),
     (.pushAf, [0b11110101])] = true := by
  decide

/-- A byte string that ends inside an instruction is rejected by name (30_encoding.md R82). -/
theorem test_decodeTruncated : decode [0xCD, 0x12] = .error .truncated := by decide

/-- The host's numbering of a standard word: opcode in bits 7:0, byte 1 in 15:8, byte 2 in 23:16. -/
theorem test_tableWordStandard : decodeTableWord 24 0x3412CD = some (.callA16 0x1234) := by decide

/-- The host's numbering of a CB_OP word: byte 0 in bits 15:8 (30_encoding.md R83). -/
theorem test_tableWordExtended : decodeTableWord 16 0xCB7C = some .bit7H := by decide

/-- A row the table gives eight bits: its operand words are zero. -/
theorem test_tableWordShort : decodeTableWord 8 0x3E = some (.ldAD8 0x00) := by decide

/-! ### One step: 95_test_vectors.md 2.1 to 2.7 -/

/-- 95_test_vectors.md A1: ADD A,B. -/
theorem test_A1 : after { base with a := 0x3A, b := 0xC6 } [0x80] []
    (fun t => decide (t.a = 0x00 ∧ t.f = 0xB0 ∧ t.pc = 0x0101)) = true := by
  decide

/-- 95_test_vectors.md A2: ADD A,C. -/
theorem test_A2 : after { base with a := 0x0F, c := 0x01 } [0x81] []
    (fun t => decide (t.a = 0x10 ∧ t.f = 0x20 ∧ t.pc = 0x0101)) = true := by
  decide

/-- 95_test_vectors.md A3: ADD A,A. -/
theorem test_A3 : after { base with a := 0x80 } [0x87] []
    (fun t => decide (t.a = 0x00 ∧ t.f = 0x90 ∧ t.pc = 0x0101)) = true := by
  decide

/-- 95_test_vectors.md A4: ADD A,D. -/
theorem test_A4 : after { base with a := 0xFF, d := 0xFF, f := 0x40 } [0x82] []
    (fun t => decide (t.a = 0xFE ∧ t.f = 0x30 ∧ t.pc = 0x0101)) = true := by
  decide

/-- 95_test_vectors.md A5: ADD A,(HL). -/
theorem test_A5 : after { base with a := 0x01, h := 0xC0, l := 0x10 } [0x86] [(0xC010, 0x0F)]
    (fun t => decide (t.a = 0x10 ∧ t.f = 0x20 ∧ t.pc = 0x0101)) = true := by
  decide

/-- 95_test_vectors.md A6: ADD A,d8. -/
theorem test_A6 : after { base with a := 0x01 } [0xC6, 0xFF] []
    (fun t => decide (t.a = 0x00 ∧ t.f = 0xB0 ∧ t.pc = 0x0102)) = true := by
  decide

/-- 95_test_vectors.md A7b: ADD A,B. -/
theorem test_A7b : after { base with a := 0x01, b := 0x01, f := 0x0F } [0x80] []
    (fun t => decide (t.a = 0x02 ∧ t.f = 0x0F ∧ t.pc = 0x0101)) = true := by
  decide

/-- 95_test_vectors.md S1: SUB B. -/
theorem test_S1 : after { base with a := 0x3E, b := 0x3E } [0x90] []
    (fun t => decide (t.a = 0x00 ∧ t.f = 0xC0 ∧ t.pc = 0x0101)) = true := by
  decide

/-- 95_test_vectors.md S2: SUB C. -/
theorem test_S2 : after { base with a := 0x10, c := 0x01 } [0x91] []
    (fun t => decide (t.a = 0x0F ∧ t.f = 0x60 ∧ t.pc = 0x0101)) = true := by
  decide

/-- 95_test_vectors.md S3: SUB D. -/
theorem test_S3 : after { base with a := 0x00, d := 0x01 } [0x92] []
    (fun t => decide (t.a = 0xFF ∧ t.f = 0x70 ∧ t.pc = 0x0101)) = true := by
  decide

/-- 95_test_vectors.md S4: SUB A. -/
theorem test_S4 : after { base with a := 0x5A, f := 0x10 } [0x97] []
    (fun t => decide (t.a = 0x00 ∧ t.f = 0xC0 ∧ t.pc = 0x0101)) = true := by
  decide

/-- 95_test_vectors.md S5: SUB (HL). -/
theorem test_S5 : after { base with a := 0x3E, h := 0xC0, l := 0x00 } [0x96] [(0xC000, 0x40)]
    (fun t => decide (t.a = 0xFE ∧ t.f = 0x50 ∧ t.pc = 0x0101)) = true := by
  decide

/-- 95_test_vectors.md S6: SUB d8. -/
theorem test_S6 : after { base with a := 0x3E } [0xD6, 0x0F] []
    (fun t => decide (t.a = 0x2F ∧ t.f = 0x60 ∧ t.pc = 0x0102)) = true := by
  decide

/-- 95_test_vectors.md X1: XOR A. -/
theorem test_X1 : after { base with a := 0xFF, f := 0xF0 } [0xAF] []
    (fun t => decide (t.a = 0x00 ∧ t.f = 0x80 ∧ t.pc = 0x0101)) = true := by
  decide

/-- 95_test_vectors.md X2: XOR B. -/
theorem test_X2 : after { base with a := 0xF0, b := 0x0F } [0xA8] []
    (fun t => decide (t.a = 0xFF ∧ t.f = 0x00 ∧ t.pc = 0x0101)) = true := by
  decide

/-- 95_test_vectors.md X3: XOR (HL). -/
theorem test_X3 : after { base with a := 0x5A, h := 0xC0, l := 0x00 } [0xAE] [(0xC000, 0x5A)]
    (fun t => decide (t.a = 0x00 ∧ t.f = 0x80 ∧ t.pc = 0x0101)) = true := by
  decide

/-- 95_test_vectors.md X4: XOR d8. -/
theorem test_X4 : after { base with a := 0x0F, f := 0x10 } [0xEE, 0xFF] []
    (fun t => decide (t.a = 0xF0 ∧ t.f = 0x00 ∧ t.pc = 0x0102)) = true := by
  decide

/-- 95_test_vectors.md C1: CP B. -/
theorem test_C1 : after { base with a := 0x3C, b := 0x2F } [0xB8] []
    (fun t => decide (t.f = 0x60 ∧ t.pc = 0x0101)) = true := by
  decide

/-- 95_test_vectors.md C2: CP C. -/
theorem test_C2 : after { base with a := 0x3C, c := 0x3C } [0xB9] []
    (fun t => decide (t.f = 0xC0 ∧ t.pc = 0x0101)) = true := by
  decide

/-- 95_test_vectors.md C3: CP (HL). -/
theorem test_C3 : after { base with a := 0x3C, h := 0xC0, l := 0x00 } [0xBE] [(0xC000, 0x40)]
    (fun t => decide (t.f = 0x50 ∧ t.pc = 0x0101)) = true := by
  decide

/-- 95_test_vectors.md C4: CP d8. -/
theorem test_C4 : after { base with a := 0x00 } [0xFE, 0x00] []
    (fun t => decide (t.f = 0xC0 ∧ t.pc = 0x0102)) = true := by
  decide

/-- 95_test_vectors.md C5: CP d8. -/
theorem test_C5 : after { base with a := 0x00 } [0xFE, 0x01] []
    (fun t => decide (t.f = 0x70 ∧ t.pc = 0x0102)) = true := by
  decide

/-- 95_test_vectors.md I1: INC A. -/
theorem test_I1 : after { base with a := 0xFF, f := 0x00 } [0x3C] []
    (fun t => decide (t.a = 0x00 ∧ t.f = 0xA0 ∧ t.pc = 0x0101)) = true := by
  decide

/-- 95_test_vectors.md I2: INC A. -/
theorem test_I2 : after { base with a := 0xFF, f := 0x10 } [0x3C] []
    (fun t => decide (t.a = 0x00 ∧ t.f = 0xB0 ∧ t.pc = 0x0101)) = true := by
  decide

/-- 95_test_vectors.md I3: INC B. -/
theorem test_I3 : after { base with b := 0x0F, f := 0xC0 } [0x04] []
    (fun t => decide (t.b = 0x10 ∧ t.f = 0x20 ∧ t.pc = 0x0101)) = true := by
  decide

/-- 95_test_vectors.md I4: INC C. -/
theorem test_I4 : after { base with c := 0x10 } [0x0C] []
    (fun t => decide (t.c = 0x11 ∧ t.f = 0x00 ∧ t.pc = 0x0101)) = true := by
  decide

/-- 95_test_vectors.md I5: INC (HL). -/
theorem test_I5 : after { base with f := 0x10, h := 0xC0, l := 0x00 } [0x34] [(0xC000, 0x7F)]
    (fun t => decide (t.f = 0x30 ∧ t.pc = 0x0101 ∧ t.read8 0xC000 = 0x80)) = true := by
  decide

/-- 95_test_vectors.md I6: INC H. -/
theorem test_I6 : after { base with h := 0x12, l := 0x34 } [0x24] []
    (fun t => decide (t.f = 0x00 ∧ t.h = 0x13 ∧ t.pc = 0x0101)) = true := by
  decide

/-- 95_test_vectors.md E1: DEC B. -/
theorem test_E1 : after { base with b := 0x01 } [0x05] []
    (fun t => decide (t.b = 0x00 ∧ t.f = 0xC0 ∧ t.pc = 0x0101)) = true := by
  decide

/-- 95_test_vectors.md E2: DEC B. -/
theorem test_E2 : after { base with b := 0x00, f := 0x10 } [0x05] []
    (fun t => decide (t.b = 0xFF ∧ t.f = 0x70 ∧ t.pc = 0x0101)) = true := by
  decide

/-- 95_test_vectors.md E3: DEC A. -/
theorem test_E3 : after { base with a := 0x10 } [0x3D] []
    (fun t => decide (t.a = 0x0F ∧ t.f = 0x60 ∧ t.pc = 0x0101)) = true := by
  decide

/-- 95_test_vectors.md E4: DEC (HL). -/
theorem test_E4 : after { base with h := 0xC0, l := 0x00 } [0x35] [(0xC000, 0x01)]
    (fun t => decide (t.f = 0xC0 ∧ t.pc = 0x0101 ∧ t.read8 0xC000 = 0x00)) = true := by
  decide

/-- 95_test_vectors.md W1: INC BC. -/
theorem test_W1 : after { base with b := 0xFF, c := 0xFF, f := 0xF0 } [0x03] []
    (fun t => decide (t.b = 0x00 ∧ t.c = 0x00 ∧ t.f = 0xF0 ∧ t.pc = 0x0101)) = true := by
  decide

/-- 95_test_vectors.md W2: INC HL. -/
theorem test_W2 : after { base with f := 0x00, h := 0x12, l := 0xFF } [0x23] []
    (fun t => decide (t.f = 0x00 ∧ t.h = 0x13 ∧ t.l = 0x00 ∧ t.pc = 0x0101)) = true := by
  decide

/-- 95_test_vectors.md W3: DEC DE. -/
theorem test_W3 : after { base with d := 0x00, e := 0x00, f := 0x00 } [0x1B] []
    (fun t => decide (t.d = 0xFF ∧ t.e = 0xFF ∧ t.f = 0x00 ∧ t.pc = 0x0101)) = true := by
  decide

/-- 95_test_vectors.md W4: INC SP. -/
theorem test_W4 : after { base with sp := 0xFFFF } [0x33] []
    (fun t => decide (t.f = 0x00 ∧ t.sp = 0x0000 ∧ t.pc = 0x0101)) = true := by
  decide

/-- 95_test_vectors.md W5: DEC SP. -/
theorem test_W5 : after { base with sp := 0x0000 } [0x3B] []
    (fun t => decide (t.f = 0x00 ∧ t.sp = 0xFFFF ∧ t.pc = 0x0101)) = true := by
  decide

/-- 95_test_vectors.md R1: RLCA. -/
theorem test_R1 : after { base with a := 0x85 } [0x07] []
    (fun t => decide (t.a = 0x0B ∧ t.f = 0x10 ∧ t.pc = 0x0101)) = true := by
  decide

/-- 95_test_vectors.md R2: RLCA. -/
theorem test_R2 : after { base with a := 0x00, f := 0xF0 } [0x07] []
    (fun t => decide (t.f = 0x00 ∧ t.pc = 0x0101)) = true := by
  decide

/-- 95_test_vectors.md R3: RLA. -/
theorem test_R3 : after { base with a := 0x95, f := 0x10 } [0x17] []
    (fun t => decide (t.a = 0x2B ∧ t.f = 0x10 ∧ t.pc = 0x0101)) = true := by
  decide

/-- 95_test_vectors.md R4: RLA. -/
theorem test_R4 : after { base with a := 0x80, f := 0x00 } [0x17] []
    (fun t => decide (t.a = 0x00 ∧ t.f = 0x10 ∧ t.pc = 0x0101)) = true := by
  decide

/-- 95_test_vectors.md R5: RLC B. -/
theorem test_R5 : after { base with b := 0x80 } [0xCB, 0x00] []
    (fun t => decide (t.b = 0x01 ∧ t.f = 0x10 ∧ t.pc = 0x0102)) = true := by
  decide

/-- 95_test_vectors.md R6: RLC A. -/
theorem test_R6 : after { base with a := 0x00, f := 0x10 } [0xCB, 0x07] []
    (fun t => decide (t.f = 0x80 ∧ t.pc = 0x0102)) = true := by
  decide

/-- 95_test_vectors.md R7: RLC (HL). -/
theorem test_R7 : after { base with h := 0xC0, l := 0x00 } [0xCB, 0x06] [(0xC000, 0xC3)]
    (fun t => decide (t.f = 0x10 ∧ t.pc = 0x0102 ∧ t.read8 0xC000 = 0x87)) = true := by
  decide

/-- 95_test_vectors.md R8: RL C. -/
theorem test_R8 : after { base with c := 0x80, f := 0x00 } [0xCB, 0x11] []
    (fun t => decide (t.c = 0x00 ∧ t.f = 0x90 ∧ t.pc = 0x0102)) = true := by
  decide

/-- 95_test_vectors.md R9: RL D. -/
theorem test_R9 : after { base with d := 0x00, f := 0x10 } [0xCB, 0x12] []
    (fun t => decide (t.d = 0x01 ∧ t.f = 0x00 ∧ t.pc = 0x0102)) = true := by
  decide

/-- 95_test_vectors.md R10: RL (HL). -/
theorem test_R10 : after { base with f := 0x10, h := 0xC0, l := 0x00 } [0xCB, 0x16] [(0xC000, 0x11)]
    (fun t => decide (t.f = 0x00 ∧ t.pc = 0x0102 ∧ t.read8 0xC000 = 0x23)) = true := by
  decide

/-- 95_test_vectors.md B1: BIT 7,H. -/
theorem test_B1 : after { base with f := 0x00, h := 0x80 } [0xCB, 0x7C] []
    (fun t => decide (t.f = 0x20 ∧ t.pc = 0x0102)) = true := by
  decide

/-- 95_test_vectors.md B2: BIT 7,H. -/
theorem test_B2 : after { base with f := 0x50, h := 0x7F } [0xCB, 0x7C] []
    (fun t => decide (t.f = 0xB0 ∧ t.pc = 0x0102)) = true := by
  decide

/-- 95_test_vectors.md B3: BIT 0,A. -/
theorem test_B3 : after { base with a := 0x01 } [0xCB, 0x47] []
    (fun t => decide (t.f = 0x20 ∧ t.pc = 0x0102)) = true := by
  decide

/-- 95_test_vectors.md B4: BIT 0,(HL). -/
theorem test_B4 : after { base with h := 0xC0, l := 0x00 } [0xCB, 0x46] [(0xC000, 0xFE)]
    (fun t => decide (t.f = 0xA0 ∧ t.pc = 0x0102)) = true := by
  decide

/-- 95_test_vectors.md B5: BIT 3,(HL). -/
theorem test_B5 : after { base with h := 0xC0, l := 0x00 } [0xCB, 0x5E] [(0xC000, 0x08)]
    (fun t => decide (t.f = 0x20 ∧ t.pc = 0x0102)) = true := by
  decide

/-- 95_test_vectors.md J4: JR r8. -/
theorem test_J4 : after { base with pc := 0x0010 } [0x18, 0x80] []
    (fun t => decide (t.pc = 0xFF92)) = true := by
  decide

/-- 95_test_vectors.md J5: JR r8. -/
theorem test_J5 : after { base with pc := 0xFFF0 } [0x18, 0x7F] []
    (fun t => decide (t.pc = 0x0071)) = true := by
  decide

/-- 95_test_vectors.md J6: JR NZ,r8. -/
theorem test_J6 : after { base with f := 0x00, pc := 0x0010 } [0x20, 0xFC] []
    (fun t => decide (t.f = 0x00 ∧ t.pc = 0x000E)) = true := by
  decide

/-- 95_test_vectors.md J7: JR NZ,r8. -/
theorem test_J7 : after { base with f := 0x80, pc := 0x0010 } [0x20, 0xFC] []
    (fun t => decide (t.f = 0x80 ∧ t.pc = 0x0012)) = true := by
  decide

/-- 95_test_vectors.md J8: JR Z,r8. -/
theorem test_J8 : after { base with f := 0x80 } [0x28, 0x02] []
    (fun t => decide (t.f = 0x80 ∧ t.pc = 0x0104)) = true := by
  decide

/-- 95_test_vectors.md J9: JR NC,r8. -/
theorem test_J9 : after { base with f := 0x10 } [0x30, 0x02] []
    (fun t => decide (t.f = 0x10 ∧ t.pc = 0x0102)) = true := by
  decide

/-- 95_test_vectors.md J10: JR C,r8. -/
theorem test_J10 : after { base with f := 0x10 } [0x38, 0x02] []
    (fun t => decide (t.f = 0x10 ∧ t.pc = 0x0104)) = true := by
  decide

/-- 95_test_vectors.md K1: CALL a16. -/
theorem test_K1 : after { base with pc := 0x0200 } [0xCD, 0x12, 0x34] []
    (fun t => decide (t.sp = 0xCFFE ∧ t.pc = 0x1234 ∧ t.read8 0xCFFE = 0x02 ∧
      t.read8 0xCFFF = 0x03)) = true := by
  decide

/-- 95_test_vectors.md K2: CALL C,a16. -/
theorem test_K2 : after { base with f := 0x00, pc := 0x0200 } [0xDC, 0x12, 0x34] []
    (fun t => decide (t.f = 0x00 ∧ t.pc = 0x0203)) = true := by
  decide

/-- 95_test_vectors.md K3: CALL C,a16. -/
theorem test_K3 : after { base with f := 0x10, pc := 0x0200 } [0xDC, 0x12, 0x34] []
    (fun t => decide (t.f = 0x10 ∧ t.sp = 0xCFFE ∧ t.pc = 0x1234 ∧ t.read8 0xCFFE = 0x02 ∧
      t.read8 0xCFFF = 0x03)) = true := by
  decide

/-- 95_test_vectors.md K4: CALL NZ,a16. -/
theorem test_K4 : after { base with f := 0x80, pc := 0x0200 } [0xC4, 0x00, 0x40] []
    (fun t => decide (t.f = 0x80 ∧ t.pc = 0x0203)) = true := by
  decide

/-- 95_test_vectors.md K5: CALL Z,a16. -/
theorem test_K5 : after { base with f := 0x80, pc := 0x0200 } [0xCC, 0x00, 0x40] []
    (fun t => decide (t.f = 0x80 ∧ t.sp = 0xCFFE ∧ t.pc = 0x0040 ∧ t.read8 0xCFFE = 0x02 ∧
      t.read8 0xCFFF = 0x03)) = true := by
  decide

/-- 95_test_vectors.md K6: CALL a16. -/
theorem test_K6 : after { base with sp := 0x0001, pc := 0x0200 } [0xCD, 0x80, 0x00] []
    (fun t => decide (t.sp = 0xFFFF ∧ t.pc = 0x8000 ∧ t.read8 0x0000 = 0x03 ∧
      t.read8 0xFFFF = 0x02)) = true := by
  decide

/-- 95_test_vectors.md T1: RET. -/
theorem test_T1 : after { base with sp := 0xCFFE } [0xC9] [(0xCFFE, 0x02), (0xCFFF, 0x03)]
    (fun t => decide (t.sp = 0xD000 ∧ t.pc = 0x0203)) = true := by
  decide

/-- 95_test_vectors.md T2: RET NZ. -/
theorem test_T2 : after { base with f := 0x80, sp := 0xCFFE } [0xC0] [(0xCFFE, 0x02), (0xCFFF, 0x03)]
    (fun t => decide (t.f = 0x80 ∧ t.pc = 0x0101)) = true := by
  decide

/-- 95_test_vectors.md T3: RET Z. -/
theorem test_T3 : after { base with f := 0x80, sp := 0xCFFE } [0xC8] [(0xCFFE, 0x02), (0xCFFF, 0x03)]
    (fun t => decide (t.f = 0x80 ∧ t.sp = 0xD000 ∧ t.pc = 0x0203)) = true := by
  decide

/-- 95_test_vectors.md T4: RET NC. -/
theorem test_T4 : after { base with f := 0x00, sp := 0xFFFF } [0xD0] [(0xFFFF, 0xAB), (0x0000, 0xCD)]
    (fun t => decide (t.f = 0x00 ∧ t.sp = 0x0001 ∧ t.pc = 0xABCD)) = true := by
  decide

/-- 95_test_vectors.md L1: LD B,C. -/
theorem test_L1 : after { base with b := 0x00, c := 0x77, f := 0xF0 } [0x41] []
    (fun t => decide (t.b = 0x77 ∧ t.f = 0xF0 ∧ t.pc = 0x0101)) = true := by
  decide

/-- 95_test_vectors.md L2: LD A,A. -/
theorem test_L2 : after { base with a := 0x12 } [0x7F] []
    (fun t => decide (t.pc = 0x0101)) = true := by
  decide

/-- 95_test_vectors.md L3: LD B,(HL). -/
theorem test_L3 : after { base with h := 0xC0, l := 0x05 } [0x46] [(0xC005, 0x99)]
    (fun t => decide (t.b = 0x99 ∧ t.pc = 0x0101)) = true := by
  decide

/-- 95_test_vectors.md L4: LD H,(HL). -/
theorem test_L4 : after { base with h := 0xC0, l := 0x05 } [0x66] [(0xC005, 0x99)]
    (fun t => decide (t.h = 0x99 ∧ t.pc = 0x0101)) = true := by
  decide

/-- 95_test_vectors.md L5: LD (HL),B. -/
theorem test_L5 : after { base with b := 0x42, h := 0xC0, l := 0x05 } [0x70] []
    (fun t => decide (t.pc = 0x0101 ∧ t.read8 0xC005 = 0x42)) = true := by
  decide

/-- 95_test_vectors.md L6: LD (HL),H. -/
theorem test_L6 : after { base with h := 0xC0, l := 0x05 } [0x74] []
    (fun t => decide (t.pc = 0x0101 ∧ t.read8 0xC005 = 0xC0)) = true := by
  decide

/-- 95_test_vectors.md L7: LD C,d8. -/
theorem test_L7 : after base [0x0E, 0xAB] []
    (fun t => decide (t.c = 0xAB ∧ t.pc = 0x0102)) = true := by
  decide

/-- 95_test_vectors.md L8: LD (HL),d8. -/
theorem test_L8 : after { base with h := 0xC0, l := 0x05 } [0x36, 0x5A] []
    (fun t => decide (t.pc = 0x0102 ∧ t.read8 0xC005 = 0x5A)) = true := by
  decide

/-- 95_test_vectors.md L9: LD A,(BC). -/
theorem test_L9 : after { base with b := 0xC1, c := 0x00 } [0x0A] [(0xC100, 0x33)]
    (fun t => decide (t.a = 0x33 ∧ t.pc = 0x0101)) = true := by
  decide

/-- 95_test_vectors.md L10: LD A,(DE). -/
theorem test_L10 : after { base with d := 0xC2, e := 0x00 } [0x1A] [(0xC200, 0x44)]
    (fun t => decide (t.a = 0x44 ∧ t.pc = 0x0101)) = true := by
  decide

/-- 95_test_vectors.md L11: LD (BC),A. -/
theorem test_L11 : after { base with a := 0x55, b := 0xC1, c := 0x00 } [0x02] []
    (fun t => decide (t.pc = 0x0101 ∧ t.read8 0xC100 = 0x55)) = true := by
  decide

/-- 95_test_vectors.md L12: LD (DE),A. -/
theorem test_L12 : after { base with a := 0x66, d := 0xC2, e := 0x00 } [0x12] []
    (fun t => decide (t.pc = 0x0101 ∧ t.read8 0xC200 = 0x66)) = true := by
  decide

/-- 95_test_vectors.md L13: LD (HL+),A. -/
theorem test_L13 : after { base with a := 0x77, h := 0xC0, l := 0xFF } [0x22] []
    (fun t => decide (t.h = 0xC1 ∧ t.l = 0x00 ∧ t.pc = 0x0101 ∧ t.read8 0xC0FF = 0x77)) = true := by
  decide

/-- 95_test_vectors.md L14: LD (HL+),A. -/
theorem test_L14 : after { base with a := 0x77, h := 0xFF, l := 0xFF } [0x22] []
    (fun t => decide (t.h = 0x00 ∧ t.l = 0x00 ∧ t.pc = 0x0101 ∧ t.read8 0xFFFF = 0x77)) = true := by
  decide

/-- 95_test_vectors.md L15: LD (HL-),A. -/
theorem test_L15 : after { base with a := 0x88, h := 0xC1, l := 0x00 } [0x32] []
    (fun t => decide (t.h = 0xC0 ∧ t.l = 0xFF ∧ t.pc = 0x0101 ∧ t.read8 0xC100 = 0x88)) = true := by
  decide

/-- 95_test_vectors.md L16: LD A,(HL+). -/
theorem test_L16 : after { base with h := 0xC0, l := 0x00 } [0x2A] [(0xC000, 0x9A)]
    (fun t => decide (t.a = 0x9A ∧ t.l = 0x01 ∧ t.pc = 0x0101)) = true := by
  decide

/-- 95_test_vectors.md L17: LD A,(HL-). -/
theorem test_L17 : after { base with h := 0x00, l := 0x00 } [0x3A] [(0x0000, 0xBC)]
    (fun t => decide (t.a = 0xBC ∧ t.h = 0xFF ∧ t.l = 0xFF ∧ t.pc = 0x0101)) = true := by
  decide

/-- 95_test_vectors.md L18: LDH (a8),A. -/
theorem test_L18 : after { base with a := 0x42 } [0xE0, 0x80] []
    (fun t => decide (t.pc = 0x0102 ∧ t.read8 0xFF80 = 0x42)) = true := by
  decide

/-- 95_test_vectors.md L19: LDH A,(a8). -/
theorem test_L19 : after base [0xF0, 0xFF] [(0xFFFF, 0x1F)]
    (fun t => decide (t.a = 0x1F ∧ t.pc = 0x0102)) = true := by
  decide

/-- 95_test_vectors.md L20: LD (C),A. -/
theorem test_L20 : after { base with a := 0x43, c := 0x10 } [0xE2] []
    (fun t => decide (t.pc = 0x0101 ∧ t.read8 0xFF10 = 0x43)) = true := by
  decide

/-- 95_test_vectors.md L21: LD A,(C). -/
theorem test_L21 : after { base with c := 0x00 } [0xF2] [(0xFF00, 0x2E)]
    (fun t => decide (t.a = 0x2E ∧ t.pc = 0x0101)) = true := by
  decide

/-- 95_test_vectors.md L22: LD (a16),A. -/
theorem test_L22 : after { base with a := 0x99 } [0xEA, 0xC1, 0x23] []
    (fun t => decide (t.pc = 0x0103 ∧ t.read8 0xC123 = 0x99)) = true := by
  decide

/-- 95_test_vectors.md L23: LD A,(a16). -/
theorem test_L23 : after base [0xFA, 0xC1, 0x23] [(0xC123, 0x5C)]
    (fun t => decide (t.a = 0x5C ∧ t.pc = 0x0103)) = true := by
  decide

/-- 95_test_vectors.md L24: LD SP,d16. -/
theorem test_L24 : after { base with sp := 0x0000 } [0x31, 0xDF, 0xF0] []
    (fun t => decide (t.sp = 0xDFF0 ∧ t.pc = 0x0103)) = true := by
  decide

/-- 95_test_vectors.md L25: LD SP,HL. -/
theorem test_L25 : after { base with h := 0xCF, l := 0xFE, sp := 0x0000 } [0xF9] []
    (fun t => decide (t.sp = 0xCFFE ∧ t.pc = 0x0101)) = true := by
  decide

/-- 95_test_vectors.md L26: LD HL,d16. -/
theorem test_L26 : after base [0x21, 0x12, 0x34] []
    (fun t => decide (t.h = 0x12 ∧ t.l = 0x34 ∧ t.pc = 0x0103)) = true := by
  decide

/-- 95_test_vectors.md L27: LD BC,d16. -/
theorem test_L27 : after base [0x01, 0xAB, 0xCD] []
    (fun t => decide (t.b = 0xAB ∧ t.c = 0xCD ∧ t.pc = 0x0103)) = true := by
  decide

/-- 95_test_vectors.md L28: LD DE,d16. -/
theorem test_L28 : after base [0x11, 0x80, 0xFF] []
    (fun t => decide (t.d = 0x80 ∧ t.e = 0xFF ∧ t.pc = 0x0103)) = true := by
  decide

/-- 95_test_vectors.md P1: PUSH BC. -/
theorem test_P1 : after { base with b := 0x12, c := 0x34 } [0xC5] []
    (fun t => decide (t.sp = 0xCFFE ∧ t.pc = 0x0101 ∧ t.read8 0xCFFE = 0x12 ∧
      t.read8 0xCFFF = 0x34)) = true := by
  decide

/-- 95_test_vectors.md P2: PUSH AF. -/
theorem test_P2 : after { base with a := 0xAB, f := 0x5F } [0xF5] []
    (fun t => decide (t.f = 0x5F ∧ t.sp = 0xCFFE ∧ t.pc = 0x0101 ∧ t.read8 0xCFFE = 0xAB ∧
      t.read8 0xCFFF = 0x5F)) = true := by
  decide

/-- 95_test_vectors.md P3: POP DE. -/
theorem test_P3 : after { base with sp := 0xCFFE } [0xD1] [(0xCFFE, 0x12), (0xCFFF, 0x34)]
    (fun t => decide (t.d = 0x12 ∧ t.e = 0x34 ∧ t.sp = 0xD000 ∧ t.pc = 0x0101)) = true := by
  decide

/-- 95_test_vectors.md P4: POP AF. -/
theorem test_P4 : after { base with sp := 0xCFFE } [0xF1] [(0xCFFE, 0xAB), (0xCFFF, 0x9F)]
    (fun t => decide (t.a = 0xAB ∧ t.f = 0x9F ∧ t.sp = 0xD000 ∧ t.pc = 0x0101)) = true := by
  decide

/-- 95_test_vectors.md P5: PUSH HL. -/
theorem test_P5 : after { base with h := 0xBE, l := 0xEF, sp := 0x0001 } [0xE5] []
    (fun t => decide (t.sp = 0xFFFF ∧ t.pc = 0x0101 ∧ t.read8 0x0000 = 0xEF ∧
      t.read8 0xFFFF = 0xBE)) = true := by
  decide

/-- 95_test_vectors.md F1: LD A,d8. -/
theorem test_F1 : after { base with pc := 0xFFFF } [0x3E, 0x77] []
    (fun t => decide (t.a = 0x77 ∧ t.pc = 0x0001)) = true := by
  decide

/-- 95_test_vectors.md F2: LD (a16),A. -/
theorem test_F2 : after { base with a := 0x11, pc := 0xFFFE } [0xEA, 0xC0, 0x00] []
    (fun t => decide (t.pc = 0x0001 ∧ t.read8 0xC000 = 0x11)) = true := by
  decide

/-- 95_test_vectors.md U1: UnknownInstruction(standard,0x00). -/
theorem test_U1 : after base [0x00] []
    (fun t => decide (t.pc = 0x0101 ∧ t.fault = some { table := .standard, byte := 0x00 })) = true := by
  decide

/-- 95_test_vectors.md U2: UnknownInstruction(standard,0x76). -/
theorem test_U2 : after base [0x76] []
    (fun t => decide (t.pc = 0x0101 ∧ t.fault = some { table := .standard, byte := 0x76 })) = true := by
  decide

/-- 95_test_vectors.md U3: UnknownInstruction(standard,0xC3). -/
theorem test_U3 : after base [0xC3, 0x12, 0x34] []
    (fun t => decide (t.pc = 0x0101 ∧ t.fault = some { table := .standard, byte := 0xC3 })) = true := by
  decide

/-- 95_test_vectors.md U4: UnknownInstruction(extended,0x80). -/
theorem test_U4 : after base [0xCB, 0x80] []
    (fun t => decide (t.pc = 0x0102 ∧ t.fault = some { table := .extended, byte := 0x80 })) = true := by
  decide

/-- 95_test_vectors.md U5: UnknownInstruction(extended,0xCB). -/
theorem test_U5 : after base [0xCB, 0xCB] []
    (fun t => decide (t.pc = 0x0102 ∧ t.fault = some { table := .extended, byte := 0xCB })) = true := by
  decide

/-- 95_test_vectors.md U6: UnknownInstruction(extended,0x37). -/
theorem test_U6 : after base [0xCB, 0x37] []
    (fun t => decide (t.pc = 0x0102 ∧ t.fault = some { table := .extended, byte := 0x37 })) = true := by
  decide

/-- 95_test_vectors.md U7: UnknownInstruction(standard,0xFF). -/
theorem test_U7 : after base [0xFF] []
    (fun t => decide (t.pc = 0x0101 ∧ t.fault = some { table := .standard, byte := 0xFF })) = true := by
  decide

/-- ADD A,E, ADD A,H and ADD A,L read their own register (40_arith_logic.md R115). -/
theorem test_addSources : ([0x83, 0x84, 0x85].map fun b : Byte =>
    after { base with e := 0x01, h := 0x02, l := 0x03 } [b] []
      (fun t => decide (t.a = b - 0x82))) = [true, true, true] := by
  decide

/-- A step in a faulted state is no step (60_exceptions.md R261). -/
theorem test_faultedStep :
    (match step { base with fault := some { table := .standard, byte := 0x76 } } with
      | .fault r => decide (r = .stepWhileFaulted .standard 0x76)
      | .next _ => false
      | .refused _ => false) = true := by
  decide

/-- From Reset with no Bootstrap the first step faults on 0x00 (70_reset_and_hazards.md R293). -/
theorem test_bareReset : after State.reset [] []
    (fun t => decide (t.fault = some { table := .standard, byte := 0x00 } ∧ t.pc = 0x0001)) = true := by
  decide

/-! ### Tick: 95_test_vectors.md 2.8 -/

theorem test_V1 : tickVideo 0 { mode := .oamScan, remaining := 80, line := 0 } =
    ({ mode := .oamScan, remaining := 80, line := 0 }, []) := by
  decide

theorem test_V2 : tickVideo 1 { mode := .oamScan, remaining := 80, line := 0 } =
    ({ mode := .oamScan, remaining := 79, line := 0 }, []) := by
  decide

theorem test_V3 : tickVideo 79 { mode := .oamScan, remaining := 80, line := 0 } =
    ({ mode := .oamScan, remaining := 1, line := 0 }, []) := by
  decide

theorem test_V4 : tickVideo 80 { mode := .oamScan, remaining := 80, line := 0 } =
    ({ mode := .pixelTransfer, remaining := 170, line := 0 }, []) := by
  decide

theorem test_V5 : tickVideo 81 { mode := .oamScan, remaining := 80, line := 0 } =
    ({ mode := .pixelTransfer, remaining := 169, line := 0 }, []) := by
  decide

theorem test_V6 : tickVideo 249 { mode := .oamScan, remaining := 80, line := 0 } =
    ({ mode := .pixelTransfer, remaining := 1, line := 0 }, []) := by
  decide

theorem test_V7 : tickVideo 250 { mode := .oamScan, remaining := 80, line := 0 } =
    ({ mode := .hBlank, remaining := 206, line := 0 }, [.scanline 0]) := by
  decide

theorem test_V8 : tickVideo 251 { mode := .oamScan, remaining := 80, line := 0 } =
    ({ mode := .hBlank, remaining := 205, line := 0 }, [.scanline 0]) := by
  decide

theorem test_V9 : tickVideo 455 { mode := .oamScan, remaining := 80, line := 0 } =
    ({ mode := .hBlank, remaining := 1, line := 0 }, [.scanline 0]) := by
  decide

theorem test_V10 : tickVideo 456 { mode := .oamScan, remaining := 80, line := 0 } =
    ({ mode := .oamScan, remaining := 80, line := 1 }, [.scanline 0]) := by
  decide

theorem test_V12 : tickVideo 65458 { mode := .oamScan, remaining := 80, line := 0 } =
    ({ mode := .hBlank, remaining := 206, line := 143 }, allLines) := by
  decide +kernel

theorem test_V13 : tickVideo 65663 { mode := .oamScan, remaining := 80, line := 0 } =
    ({ mode := .hBlank, remaining := 1, line := 143 }, allLines) := by
  decide +kernel

theorem test_V14 : tickVideo 65664 { mode := .oamScan, remaining := 80, line := 0 } =
    ({ mode := .vBlank, remaining := 456, line := 144 }, allLines ++ [.frame]) := by
  decide +kernel

theorem test_V15 : tickVideo 66120 { mode := .oamScan, remaining := 80, line := 0 } =
    ({ mode := .vBlank, remaining := 456, line := 145 }, allLines ++ [.frame]) := by
  decide +kernel

theorem test_V16 : tickVideo 70223 { mode := .oamScan, remaining := 80, line := 0 } =
    ({ mode := .vBlank, remaining := 1, line := 153 }, allLines ++ [.frame]) := by
  decide +kernel

theorem test_V17 : tickVideo 70224 { mode := .oamScan, remaining := 80, line := 0 } =
    ({ mode := .oamScan, remaining := 80, line := 0 }, allLines ++ [.frame]) := by
  decide +kernel

theorem test_V18 : tickVideo 70304 { mode := .oamScan, remaining := 80, line := 0 } =
    ({ mode := .pixelTransfer, remaining := 170, line := 0 }, allLines ++ [.frame]) := by
  decide +kernel

theorem test_V19 : tickVideo 141448 { mode := .oamScan, remaining := 80, line := 0 } =
    ({ mode := .pixelTransfer, remaining := 162, line := 2 }, (allLines ++ [.frame]) ++ (allLines ++ [.frame]) ++ [.scanline 0, .scanline 1]) := by
  decide +kernel

theorem test_V20 : tickVideo 206 { mode := .hBlank, remaining := 206, line := 143 } =
    ({ mode := .vBlank, remaining := 456, line := 144 }, [.frame]) := by
  decide

theorem test_V21 : tickVideo 206 { mode := .hBlank, remaining := 206, line := 142 } =
    ({ mode := .oamScan, remaining := 80, line := 143 }, []) := by
  decide

theorem test_V22 : tickVideo 456 { mode := .vBlank, remaining := 456, line := 153 } =
    ({ mode := .oamScan, remaining := 80, line := 0 }, []) := by
  decide

theorem test_V23 : tickVideo 456 { mode := .vBlank, remaining := 456, line := 152 } =
    ({ mode := .vBlank, remaining := 456, line := 153 }, []) := by
  decide

theorem test_V24 : tickVideo 455 { mode := .vBlank, remaining := 456, line := 153 } =
    ({ mode := .vBlank, remaining := 1, line := 153 }, []) := by
  decide

theorem test_V25 : tickVideo 1 { mode := .hBlank, remaining := 1, line := 0 } =
    ({ mode := .oamScan, remaining := 80, line := 1 }, []) := by
  decide

/-! ### Witnesses: hypotheses that can be met -/

/-- For `Obligations.DecodeOfEncode`. -/
theorem test_witnessDecodeOfEncode : (Instr.callA16 0xFFFF).WellFormed := trivial

/-- For `Obligations.EncodeOfDecode`. -/
theorem test_witnessEncodeOfDecode : decode [0xCB, 0x7C, 0x00] = .ok (.bit7H, [0x00]) := by decide

/-- For `Obligations.StepRunsDecodedInstruction`: an instruction that straddles the top of memory. -/
theorem test_witnessStep :
    let s := load { base with pc := 0xFFFE } [0xCD, 0x12, 0x34] []
    s.fault = none ∧ decode s.window = .ok (.callA16 0x1234, []) ∧ (Instr.callA16 0x1234).WellFormed :=
  ⟨rfl, by decide, trivial⟩

/-- For the first clause of `Obligations.UnassignedByteRaises`. -/
theorem test_witnessUnassignedStandard :
    let s := load { base with pc := 0xFFFF } [0x76] []
    s.fault = none ∧ s.read8 s.pc ∈ unassignedStandard := by
  decide

/-- For the second clause of `Obligations.UnassignedByteRaises`, at both ends of its last range. -/
theorem test_witnessUnassignedExtended : ([0x80, 0xFF].all fun b : Byte =>
    let s := load base [0xCB, b] []
    decide (s.fault = none ∧ s.read8 s.pc = 0xCB ∧ unassignedExtended (s.read8 (s.pc + 1)) = true)) =
      true := by
  decide

/-- For `Obligations.OnlyUnassignedBytesFault`. -/
theorem test_witnessNoFault : State.reset.fault = none := rfl

/-- For the first clause of `Obligations.FaultIsTerminal`. -/
theorem test_witnessFaulted :
    ({ base with fault := some { table := .extended, byte := 0xCB } } : State).fault =
      some { table := .extended, byte := 0xCB } := rfl

/-- For the second clause of `Obligations.FaultIsTerminal`: a Tick of a faulted block. -/
theorem test_witnessFaultedTick :
    let k : Block :=
      { core := { base with fault := some { table := .extended, byte := 0xCB } }, stepped := true }
    Transaction.tick 1 ≠ .reset ∧
      k.core.fault = some { table := .extended, byte := 0xCB } ∧
      transact (.tick 1) k = .next ({ k with core := (tick 1 k.core).1 }, []) :=
  ⟨by decide, rfl, rfl⟩

/-- For `Obligations.PlacedWordRuns`. -/
theorem test_witnessPlacedWord : decodeTableWord 16 0xCB00 = some .rlcB := by decide

/-- For `Obligations.StoreIsSeenByNextFetch`: LD (HL),d8 writes ADD A,A over the byte after it. -/
theorem test_witnessStore :
    let s := load { base with h := 0x01, l := 0x02 } [0x36, 0x87] []
    s.fault = none ∧ s.read8 s.pc = 0x36 ∧ s.pair .hl = s.pc + 2 ∧
      DecodesAs [s.read8 (s.pc + 1)] .addAA :=
  ⟨rfl, by decide, by decide, fun _ => rfl⟩

/-- For `Obligations.StepKeepsInvariant`: LD A,d8 from Reset after a Bootstrap. -/
theorem test_witnessStepInv :
    let s := bootstrap [0x3E, 0x05] State.reset
    s.Inv ∧ step s = .next { s with a := 0x05, pc := 0x0002 } :=
  ⟨⟨State.bootstrap_wf _ _ (State.resetWith_mem_wf _), by constructor <;> decide⟩, rfl⟩

/-- For `Obligations.TransactionsKeepInvariant`: a Tick that leaves the first mode. -/
theorem test_witnessTransactInv :
    Block.reset.core.Inv ∧
      transact (.tick 80) Block.reset = .next ({ Block.reset with core := (tick 80 State.reset).1 }, []) :=
  ⟨⟨State.resetWith_mem_wf _, by constructor <;> decide⟩, rfl⟩

/-- For `Obligations.CanonicalMemoryIsUnique`: the first and the last address. -/
theorem test_witnessCanonical :
    let m : Memory := (Memory.write [] 0xFFFF 0x01).write 0x0000 0x02
    m.wf ∧ m = [(0, 0x02), (65535, 0x01)] ∧ ∀ a : Word, m.read a = m.read a :=
  ⟨Memory.write_wf _ _ _ (Memory.write_wf _ _ _ Memory.nil_wf), by decide, fun _ => rfl⟩

/-- Writing 0x00 removes a byte from the canonical form (log 7). -/
theorem test_writeZeroUnlists : (Memory.write [] 0x1234 0x05).write 0x1234 0x00 = [] := by
  decide

/-- For `Obligations.ReturnUndoesCall`: both forms unconditional, one, and neither. -/
theorem test_witnessGuards :
    (guardHolds 0x00 none = true ∧ guardHolds 0x10 (some .c) = true ∧ guardHolds 0x00 (some .nz) = true) ∧
      (guardHolds 0x90 (some .z) = true ∧ guardHolds 0x90 (some .c) = true) := by decide

/-- For the first and last clause of `Obligations.StepIsRecorded`: a Step that completes. -/
theorem test_witnessStepTransaction :
    let k : Block := { core := bootstrap [0x3E, 0x05] State.reset, stepped := false }
    transact .step k = .next ({ core := { k.core with a := 0x05, pc := 0x0002 }, stepped := true }, []) := rfl

/-- For the second clause of `Obligations.StepIsRecorded`: a Step that stops. -/
theorem test_witnessStepStops :
    let k : Block :=
      { core := { base with fault := some { table := .extended, byte := 0x80 } }, stepped := true }
    step k.core = .fault (.stepWhileFaulted .extended 0x80) := rfl

/-- For the fourth clause of `Obligations.StepIsRecorded`: a host write after a Step. -/
theorem test_witnessStepKept :
    let k : Block := { core := base, stepped := true }
    Transaction.write (.sp 0x0000) ≠ .reset ∧ Transaction.write (.sp 0x0000) ≠ .step ∧
      transact (.write (.sp 0x0000)) k = .next ({ k with core := { base with sp := 0x0000 } }, []) :=
  ⟨by decide, by decide, rfl⟩

/-- For `Obligations.FramePeriod`: the last cycle of the last line. -/
theorem test_witnessVideoInv :
    Video.Inv { mode := .vBlank, remaining := 1, line := 153 } := by constructor <;> decide

/-- For `Obligations.BootstrapCopiesImage`: each of its three branches is taken. -/
theorem test_witnessBootstrap :
    (∃ k : Block, k.stepped = true) ∧
      (Block.reset.stepped = false ∧ 65536 < (List.replicate 65537 (0x00 : Byte)).length) ∧
      (Block.reset.stepped = false ∧ ¬ 65536 < (List.replicate 65536 (0xFF : Byte)).length) := by
  refine ⟨⟨{ Block.reset with stepped := true }, rfl⟩, ⟨rfl, ?_⟩, ⟨rfl, ?_⟩⟩ <;>
    rw [List.length_replicate] <;> decide

end Sys2Proof.Tests
end

namespace Sys2Proof.Proofs

open Sys2Proof.Machine Sys2Proof.Claims

/-! ### Pairs as views (10_state.md R22) -/

theorem pairHi_ne_pairLo (p : Pair) : pairHi p ≠ pairLo p := by
  cases p <;> decide

theorem reg_pairHi_setPair (s : State) (p : Pair) (v : Word) :
    (s.setPair p v).reg (pairHi p) = hiByte v := by
  rw [State.setPair, State.reg_setReg, if_neg (pairHi_ne_pairLo p).symm, State.reg_setReg, if_pos rfl]

theorem reg_pairLo_setPair (s : State) (p : Pair) (v : Word) :
    (s.setPair p v).reg (pairLo p) = loByte v := by
  rw [State.setPair, State.reg_setReg, if_pos rfl]

/-- The whole frame of a pair write. -/
theorem setPair_onlyRegs (s : State) (p : Pair) (v : Word) :
    OnlyRegs s (s.setPair p v) [pairHi p, pairLo p] := by
  refine ⟨fun q hq => ?regs, State.setPair_sp s p v, State.setPair_pc s p v,
    State.setPair_read8 s p v, State.setPair_video s p v, State.setPair_fault s p v⟩
  obtain ⟨hhi, hlo⟩ : q ≠ pairHi p ∧ q ≠ pairLo p := by simpa using hq
  exact State.reg_setPair_ne s p v q hhi hlo

/-- Settles O18: the halves of a pair are two different registers, so its write is two register writes
that do not disturb each other. -/
theorem pairIsAView : Obligations.PairIsAView := by
  intro s p v
  have hread : (s.pair p).toNat = (s.reg (pairHi p)).toNat * 256 + (s.reg (pairLo p)).toNat :=
    joinBytes_toNat _ _
  have hhi : ((s.setPair p v).reg (pairHi p)).toNat = v.toNat / 256 := by
    rw [reg_pairHi_setPair, hiByte_toNat]
  have hlo : ((s.setPair p v).reg (pairLo p)).toNat = v.toNat % 256 := by
    rw [reg_pairLo_setPair, loByte_toNat]
  exact ⟨hread, hhi, hlo, setPair_onlyRegs s p v, rfl, rfl, rfl, rfl, rfl, rfl, rfl, rfl⟩

/-! ### The invariant after Reset (10_state.md R45, 50_video_timing.md R243) -/

theorem video_reset_inv : Video.reset.Inv where
  remaining_pos := by decide
  remaining_le := Nat.le_refl kaoboy.budgetOam
  line_lt := by decide
  vBlank_iff := by decide

theorem resetWith_inv (v : ResetValues) : (State.resetWith v).Inv where
  mem_wf := State.resetWith_mem_wf v
  video_inv := video_reset_inv

/-- Settles O14: memory is empty and the video timing machine is at the start of line 0, whatever the
OPEN registers hold. -/
theorem resetMeetsInvariant : Obligations.ResetMeetsInvariant :=
  ⟨resetWith_inv kaoboy.resetValues, resetWith_inv⟩

end Sys2Proof.Proofs

namespace Sys2Proof.Proofs

open Sys2Proof.Machine Sys2Proof.Claims

/-! ### 16-bit accesses (20_memory.md R52, R53) -/

theorem read16_toNat (s : State) (a : Word) :
    (s.read16 a).toNat = (s.read8 a).toNat * 256 + (s.read8 (a + 1)).toNat := by
  rw [State.read16_eq, joinBytes_toNat]

/-- A 16-bit write stores two bytes and keeps the rest. -/
theorem read8_write16 (s : State) (a v x : Word) :
    (s.write16 a v).read8 x = if x = a + 1 then loByte v else if x = a then hiByte v else s.read8 x := by
  simp only [State.write16, State.read8_write8, firstByte_kaoboy, secondByte_kaoboy]

/-- The two bytes of a short never share an address, at the top of memory either. -/
theorem ne_succ (a : Word) : a ≠ a + 1 := by bv_omega

theorem read8_write16_hi (s : State) (a v : Word) : (s.write16 a v).read8 a = hiByte v := by
  rw [read8_write16, if_neg (ne_succ a), if_pos rfl]

theorem read8_write16_lo (s : State) (a v : Word) : (s.write16 a v).read8 (a + 1) = loByte v := by
  rw [read8_write16, if_pos rfl]

theorem read8_write16_ne (s : State) (a v : Word) {x : Word} (hhi : x ≠ a) (hlo : x ≠ a + 1) :
    (s.write16 a v).read8 x = s.read8 x := by
  rw [read8_write16, if_neg hlo, if_neg hhi]

theorem read16_write16_same (s : State) (a v : Word) : (s.write16 a v).read16 a = v := by
  rw [State.read16_eq, read8_write16_hi, read8_write16_lo, joinBytes_hiByte_loByte]

/-- Settles O20: the two bytes of the short stand at two different addresses, so the write of the low
byte does not disturb the high one. -/
theorem shortAccessIsHighFirst : Obligations.ShortAccessIsHighFirst := by
  intro s a v
  have hhi : ((s.write16 a v).read8 a).toNat = v.toNat / 256 := by
    rw [read8_write16_hi, hiByte_toNat]
  have hlo : ((s.write16 a v).read8 (a + 1)).toNat = v.toNat % 256 := by
    rw [read8_write16_lo, loByte_toNat]
  exact ⟨read16_toNat s a, hhi, hlo, fun _ => read8_write16_ne s a v, read16_write16_same s a v, rfl⟩

/-! ### The instruction stream (20_memory.md R56, R57) -/

/-- `Fetch16()` reads the short at `pc`. -/
@[simp] theorem fetch16_fst (s : State) : s.fetch16.1 = s.read16 s.pc := rfl

@[simp] theorem fetch16_snd (s : State) : s.fetch16.2 = s.setPc (s.pc + 2) := by
  have htwice : s.pc + 1 + 1 = s.pc + 2 := BitVec.add_assoc s.pc 1 1
  rw [← htwice]
  rfl

/-- Settles O21: `Fetch16()` is the 16-bit read at `pc`, and two advances of `pc` by 1 are one by 2. -/
theorem fetchAdvancesPc : Obligations.FetchAdvancesPc := by
  intro s
  have hvalue : s.fetch16.1.toNat = (s.read8 s.pc).toNat * 256 + (s.read8 (s.pc + 1)).toNat := by
    rw [fetch16_fst, read16_toNat]
  exact ⟨State.fetch8_fst s, State.fetch8_snd s, hvalue, fetch16_snd s⟩

/-! ### The stack (20_memory.md R58, R59) -/

/-- A push is a 16-bit write at the lowered stack pointer. -/
theorem push_eq_write16 (s : State) (v : Word) :
    s.push v = (s.setSp (s.sp - 2)).write16 (s.sp - 2) v := rfl

theorem push_pushedShort (s : State) (v : Word) :
    PushedShort s (s.push v) (hiByte v) (loByte v) := by
  have hnext : s.sp - 1 = s.sp - 2 + 1 := by bv_omega
  rw [PushedShort, push_eq_write16, hnext]
  exact ⟨rfl, read8_write16_hi _ _ v, read8_write16_lo _ _ v, fun _ => read8_write16_ne _ _ v⟩

theorem pop_push_fst (s : State) (v : Word) : (s.push v).pop.1 = v :=
  read16_write16_same (s.setSp (s.sp - 2)) (s.sp - 2) v

theorem pop_push_sp (s : State) (v : Word) : (s.push v).pop.2.sp = s.sp :=
  BitVec.sub_add_cancel s.sp 2

/-- Settles O22: a push is a 16-bit write and a pop a 16-bit read at the same address, and the two moves
of `sp` cancel modulo 65536. -/
theorem popUndoesPush : Obligations.PopUndoesPush := fun s v =>
  ⟨push_pushedShort s v, rfl, read16_toNat s s.sp, State.pop_snd s, pop_push_fst s v, pop_push_sp s v⟩

/-! ### A store over the very next instruction (20_memory.md R68) -/

/-- What a one-byte decoding says of the standard table: the byte has an entry without an immediate. -/
theorem decode_singleton_eq_ok {b : Byte} {i : Instr} {rest : List Byte}
    (h : decode [b] = .ok (i, rest)) :
    b ≠ kaoboy.prefixByte ∧ lookupStandard b = some (.plain i) := by
  simp only [decode] at h
  split at h
  case isTrue => cases h
  case isFalse hprefix =>
    refine ⟨hprefix, ?_⟩
    split at h
    case h_2 => cases h
    case h_1 e hentry =>
      cases e with
      | plain j => cases h; exact hentry
      | imm8 k | imm16 k => cases h

/-- A step at a one-byte instruction runs it with `pc` past its byte. -/
theorem step_of_plain {s : State} {i : Instr} (hfault : s.fault = none)
    (hprefix : s.read8 s.pc ≠ kaoboy.prefixByte) (hentry : lookupStandard (s.read8 s.pc) = some (.plain i)) :
    step s = exec i (s.setPc (s.pc + 1)) := by
  rw [step_eq s hfault, fetchInstr_eq, if_neg hprefix, hentry]

/-- A step at an instruction with an immediate byte runs it with that byte and `pc` past both. -/
theorem step_of_imm8 {s : State} {k : Byte → Instr} (hfault : s.fault = none)
    (hprefix : s.read8 s.pc ≠ kaoboy.prefixByte) (hentry : lookupStandard (s.read8 s.pc) = some (.imm8 k)) :
    step s = exec (k (s.read8 (s.pc + 1))) (s.setPc (s.pc + 2)) := by
  rw [step_eq s hfault, fetchInstr_eq, if_neg hprefix, hentry]

/-- A step at LD (HL),d8. -/
theorem step_ldMemHlD8 {s : State} (hfault : s.fault = none) (hop : s.read8 s.pc = 0x36) :
    step s = .next ((s.setPc (s.pc + 2)).write8 (s.pair .hl) (s.read8 (s.pc + 1))) := by
  have hprefix : s.read8 s.pc ≠ kaoboy.prefixByte := by rw [hop]; decide
  have hentry : lookupStandard (s.read8 s.pc) = some (.imm8 .ldMemHlD8) := by rw [hop]; rfl
  rw [step_of_imm8 hfault hprefix hentry, exec_eq_meaning]
  rfl

/-- Settles O11: the store of the first step puts the byte where `pc` stands, and the second step fetches
from that memory. -/
theorem storeIsSeenByNextFetch : Obligations.StoreIsSeenByNextFetch := by
  intro s i hfault hop hhl hdecodes
  have hfirst := step_ldMemHlD8 hfault hop
  rw [hhl] at hfirst
  have hstored : ((s.setPc (s.pc + 2)).write8 (s.pc + 2) (s.read8 (s.pc + 1))).read8 (s.pc + 2) =
      s.read8 (s.pc + 1) := by
    rw [State.read8_write8, if_pos rfl]
  obtain ⟨hprefix, hentry⟩ := decode_singleton_eq_ok (hdecodes [])
  rw [← hstored] at hprefix hentry
  exact ⟨_, hfirst, rfl, hstored, step_of_plain hfault hprefix hentry⟩

end Sys2Proof.Proofs

namespace Sys2Proof.Proofs

open Sys2Proof.Machine Sys2Proof.Claims

/-! ### What the decoder reads (30_encoding.md R81, R82) -/

/-- One row of the opcode tables reads `i` at the head of the bytes and leaves `rest`: a constructor per
kind of row. -/
inductive ReadsRow : List Byte → Instr → List Byte → Prop where
  | plain {op : Byte} {i : Instr} {rest : List Byte} (hprefix : op ≠ kaoboy.prefixByte)
      (hrow : lookupStandard op = some (.plain i)) : ReadsRow (op :: rest) i rest
  | imm8 {op v : Byte} {k : Byte → Instr} {rest : List Byte} (hprefix : op ≠ kaoboy.prefixByte)
      (hrow : lookupStandard op = some (.imm8 k)) : ReadsRow (op :: v :: rest) (k v) rest
  | imm16 {op v w : Byte} {k : Word → Instr} {rest : List Byte} (hprefix : op ≠ kaoboy.prefixByte)
      (hrow : lookupStandard op = some (.imm16 k)) :
      ReadsRow (op :: v :: w :: rest) (k (joinBytes v w)) rest
  | extended {b op : Byte} {i : Instr} {rest : List Byte} (hprefix : b = kaoboy.prefixByte)
      (hrow : lookupExtended op = some i) : ReadsRow (b :: op :: rest) i rest

theorem decode_of_prefix {b op : Byte} {i : Instr} (hprefix : b = kaoboy.prefixByte)
    (hrow : lookupExtended op = some i) (rest : List Byte) :
    decode (b :: op :: rest) = .ok (i, rest) := by
  simp only [decode, if_pos hprefix, hrow]

theorem decode_of_standard {op : Byte} {e : Entry} (hprefix : op ≠ kaoboy.prefixByte)
    (hrow : lookupStandard op = some e) (bytes : List Byte) :
    decode (op :: bytes) = completeEntry e bytes := by
  simp only [decode, if_neg hprefix, hrow]

theorem ReadsRow.decode_eq_ok {bytes rest : List Byte} {i : Instr} (h : ReadsRow bytes i rest) :
    decode bytes = .ok (i, rest) := by
  cases h with
  | plain hprefix hrow | imm8 hprefix hrow | imm16 hprefix hrow =>
    rw [decode_of_standard hprefix hrow]; rfl
  | extended hprefix hrow => exact decode_of_prefix hprefix hrow rest

theorem completeEntry_readsRow {op : Byte} {e : Entry} {bytes rest : List Byte} {i : Instr}
    (hprefix : op ≠ kaoboy.prefixByte) (hrow : lookupStandard op = some e)
    (h : completeEntry e bytes = .ok (i, rest)) : ReadsRow (op :: bytes) i rest := by
  match e, bytes with
  | .plain _, _ => cases h; exact .plain hprefix hrow
  | .imm8 _, [] | .imm16 _, [] | .imm16 _, [_] => cases h
  | .imm8 _, _ :: _ => cases h; exact .imm8 hprefix hrow
  | .imm16 _, _ :: _ :: _ => cases h; exact .imm16 hprefix hrow

/-- Decoding answers what one row of the tables reads, and nothing else. -/
theorem decode_eq_ok_iff_readsRow {bytes rest : List Byte} {i : Instr} :
    decode bytes = .ok (i, rest) ↔ ReadsRow bytes i rest := by
  refine ⟨fun h => ?_, ReadsRow.decode_eq_ok⟩
  rcases bytes with _ | ⟨b, bytes⟩
  · cases h
  by_cases hprefix : b = kaoboy.prefixByte
  · rcases bytes with _ | ⟨op, bytes⟩
    · simp only [decode, if_pos hprefix] at h; cases h
    cases hrow : lookupExtended op with
    | none => simp only [decode, if_pos hprefix, hrow] at h; cases h
    | some j =>
      rw [decode_of_prefix hprefix hrow] at h
      cases h
      exact .extended hprefix hrow
  · cases hrow : lookupStandard b with
    | none => simp only [decode, if_neg hprefix, hrow] at h; cases h
    | some e =>
      rw [decode_of_standard hprefix hrow] at h
      exact completeEntry_readsRow hprefix hrow h

/-! ### The encoder's four layouts are read back (30_encoding.md R82, R96) -/

theorem readsRow_encodeOp {op : Byte} {i : Instr} (rest : List Byte) (hprefix : op ≠ kaoboy.prefixByte)
    (hrow : lookupStandard op = some (.plain i)) : ReadsRow (encodeOp op ++ rest) i rest :=
  .plain hprefix hrow

theorem readsRow_encodeOpImm8 {op : Byte} {k : Byte → Instr} (v : Byte) (rest : List Byte)
    (hprefix : op ≠ kaoboy.prefixByte) (hrow : lookupStandard op = some (.imm8 k)) :
    ReadsRow (encodeOpImm8 op v ++ rest) (k v) rest :=
  .imm8 hprefix hrow

/-- The two bytes of the immediate short join to it again. -/
theorem readsRow_encodeOpImm16 {op : Byte} {k : Word → Instr} (v : Word) (rest : List Byte)
    (hprefix : op ≠ kaoboy.prefixByte) (hrow : lookupStandard op = some (.imm16 k)) :
    ReadsRow (encodeOpImm16 op v ++ rest) (k v) rest := by
  have hread : ReadsRow (encodeOpImm16 op v ++ rest) (k (joinBytes (hiByte v) (loByte v))) rest :=
    .imm16 hprefix hrow
  rwa [joinBytes_hiByte_loByte] at hread

theorem readsRow_encodeExtended {op : Byte} {i : Instr} (rest : List Byte)
    (hrow : lookupExtended op = some i) : ReadsRow (encodeExtended op ++ rest) i rest :=
  .extended rfl hrow

/-! ### The encoding of every instruction, by its format

An instruction's encoding is by definition the layout of its format, and the table's row for its opcode
is found by running the lookup. -/

theorem readsRow_encode_of_op {i : Instr} (hformat : i.format = .op) (rest : List Byte) :
    ReadsRow (encode i ++ rest) i rest := by
  cases i <;> cases hformat <;> exact readsRow_encodeOp rest (by decide) rfl

theorem readsRow_encode_of_opD8 {i : Instr} (hformat : i.format = .opD8) (rest : List Byte) :
    ReadsRow (encode i ++ rest) i rest := by
  cases i <;> cases hformat <;> exact readsRow_encodeOpImm8 _ rest (by decide) rfl

theorem readsRow_encode_of_opR8 {i : Instr} (hformat : i.format = .opR8) (rest : List Byte) :
    ReadsRow (encode i ++ rest) i rest := by
  cases i <;> cases hformat <;> exact readsRow_encodeOpImm8 _ rest (by decide) rfl

theorem readsRow_encode_of_opD16 {i : Instr} (hformat : i.format = .opD16) (rest : List Byte) :
    ReadsRow (encode i ++ rest) i rest := by
  cases i <;> cases hformat <;> exact readsRow_encodeOpImm16 _ rest (by decide) rfl

theorem readsRow_encode_of_cbOp {i : Instr} (hformat : i.format = .cbOp) (rest : List Byte) :
    ReadsRow (encode i ++ rest) i rest := by
  cases i <;> cases hformat <;> exact readsRow_encodeExtended rest rfl

theorem readsRow_encode (i : Instr) (rest : List Byte) : ReadsRow (encode i ++ rest) i rest := by
  cases hformat : i.format with
  | op => exact readsRow_encode_of_op hformat rest
  | opD8 => exact readsRow_encode_of_opD8 hformat rest
  | opR8 => exact readsRow_encode_of_opR8 hformat rest
  | opD16 => exact readsRow_encode_of_opD16 hformat rest
  | cbOp => exact readsRow_encode_of_cbOp hformat rest

/-- Settles O1: in each of the five formats, the row of the instruction's opcode reads the encoding
back. -/
theorem decodeOfEncode : Obligations.DecodeOfEncode := fun i rest _ =>
  (readsRow_encode i rest).decode_eq_ok

/-- Settles O4: each word is the encoding of its instruction. -/
theorem sampleWordsDecode : Obligations.SampleWordsDecode :=
  ⟨decodeOfEncode .addAD [] trivial, decodeOfEncode .subA [] trivial,
    decodeOfEncode .xorMemHl [] trivial, decodeOfEncode (.cpD8 0x34) [] trivial,
    decodeOfEncode .incL [] trivial, decodeOfEncode .decDe [] trivial,
    decodeOfEncode .bit7H [] trivial, decodeOfEncode .rlC [] trivial,
    decodeOfEncode (.jrCR8 0xFB) [] trivial, decodeOfEncode (.callNzA16 0x1234) [] trivial,
    decodeOfEncode .retC [] trivial, decodeOfEncode .ldMemHlE [] trivial,
    decodeOfEncode (.ldHlD16 0x9FFF) [] trivial, decodeOfEncode .pushAf [] trivial,
    decodeOfEncode .popDe [] trivial⟩

/-! ### Which bytes the tables assign (30_encoding.md R100, R101) -/

/-- The 256 bytes, in rising order. -/
def allBytes : List Byte := (List.finRange 256).map BitVec.ofFin

theorem mem_allBytes (b : Byte) : b ∈ allBytes :=
  List.mem_map.mpr ⟨b.toFin, List.mem_finRange _, rfl⟩

theorem allBytes_nodup : allBytes.Nodup :=
  (List.nodup_finRange 256).map fun _ _ h => congrArg BitVec.toFin h

/-- Two lists of bytes hold each byte exactly once between them: put in order, they are all the bytes. -/
def Partition (l₁ l₂ : List Byte) : Prop := (l₁ ++ l₂).insertionSort (· ≤ ·) = allBytes

theorem Partition.perm {l₁ l₂ : List Byte} (h : Partition l₁ l₂) : (l₁ ++ l₂).Perm allBytes :=
  h ▸ (List.perm_insertionSort (· ≤ ·) (l₁ ++ l₂)).symm

theorem Partition.nodup_append {l₁ l₂ : List Byte} (h : Partition l₁ l₂) : (l₁ ++ l₂).Nodup :=
  h.perm.nodup_iff.mpr allBytes_nodup

theorem Partition.nodup_right {l₁ l₂ : List Byte} (h : Partition l₁ l₂) : l₂.Nodup :=
  h.nodup_append.of_append_right

theorem Partition.notMem_right_iff {l₁ l₂ : List Byte} (h : Partition l₁ l₂) (b : Byte) :
    b ∉ l₂ ↔ b ∈ l₁ := by
  have hcover : b ∈ l₁ ∨ b ∈ l₂ := List.mem_append.mp (h.perm.mem_iff.mpr (mem_allBytes b))
  have hdisjoint : b ∈ l₁ → b ∉ l₂ := fun hb => h.nodup_append.disjoint hb
  exact ⟨hcover.resolve_right, hdisjoint⟩

theorem standardTable_partition :
    Partition (0xCB :: unassignedStandard) (standardTable.map Prod.fst) := by
  unfold Partition
  decide +kernel

theorem extendedTable_partition :
    Partition (allBytes.filter unassignedExtended) (extendedTable.map Prod.fst) := by
  unfold Partition
  decide +kernel

theorem lookup_eq_none_iff_notMem {β : Type} {l : List (Byte × β)} {b : Byte} :
    l.lookup b = none ↔ b ∉ l.map Prod.fst := by
  rw [List.lookup_eq_none_iff, List.mem_map, not_exists]
  exact forall_congr' fun row => by rw [not_and, bne_iff_ne, ne_comm]

theorem lookupStandard_eq_none_iff (b : Byte) :
    lookupStandard b = none ↔ b ∈ unassignedStandard ∨ b = 0xCB := by
  calc lookupStandard b = none
    _ ↔ b ∉ standardTable.map Prod.fst := lookup_eq_none_iff_notMem
    _ ↔ b ∈ 0xCB :: unassignedStandard := standardTable_partition.notMem_right_iff b
    _ ↔ b ∈ unassignedStandard ∨ b = 0xCB := List.mem_cons.trans Or.comm

theorem lookupExtended_eq_none_iff (b : Byte) :
    lookupExtended b = none ↔ unassignedExtended b = true := by
  calc lookupExtended b = none
    _ ↔ b ∉ extendedTable.map Prod.fst := lookup_eq_none_iff_notMem
    _ ↔ b ∈ allBytes.filter unassignedExtended := extendedTable_partition.notMem_right_iff b
    _ ↔ unassignedExtended b = true := List.mem_filter.trans (and_iff_right (mem_allBytes b))

/-- Settles O3: the bytes of a table's rows and the bytes the spec lists as unassigned hold every byte
once between them. -/
theorem tablesAssignAllButUnassigned : Obligations.TablesAssignAllButUnassigned :=
  ⟨lookupStandard_eq_none_iff, lookupExtended_eq_none_iff,
    standardTable_partition.nodup_right, rfl, extendedTable_partition.nodup_right, rfl⟩

/-! ### The step runs what the decoder reads (30_encoding.md R81, 10_state.md R32) -/

/-- The length of the instructions of an entry (30_encoding.md R82). -/
def entryLength : Entry → Nat
  | .plain _ => 1
  | .imm8 _ => 2
  | .imm16 _ => 3

/-- The instruction of an entry, with the immediate its kind takes. -/
def fillEntry (v : Byte) (w : Word) : Entry → Instr
  | .plain i => i
  | .imm8 k => k v
  | .imm16 k => k w

theorem mem_of_lookup_eq_some {β : Type} {b : Byte} {x : β} {l : List (Byte × β)}
    (h : l.lookup b = some x) : (b, x) ∈ l := by
  obtain ⟨l₁, l₂, hl, -⟩ := List.lookup_eq_some_iff.mp h
  exact hl ▸ List.mem_append_right l₁ List.mem_cons_self

theorem length_of_lookupStandard {op : Byte} {e : Entry} (hrow : lookupStandard op = some e)
    (v : Byte) (w : Word) : (fillEntry v w e).length = entryLength e := by
  have htable : (standardTable.map fun row => (fillEntry v w row.2).length) =
      standardTable.map fun row => entryLength row.2 := rfl
  exact List.map_inj_left.mp htable _ (mem_of_lookup_eq_some hrow)

theorem length_of_plain {op : Byte} {i : Instr} (hrow : lookupStandard op = some (.plain i)) :
    i.length = 1 :=
  length_of_lookupStandard hrow 0 0

theorem length_of_imm8 {op : Byte} {k : Byte → Instr} (hrow : lookupStandard op = some (.imm8 k))
    (v : Byte) : (k v).length = 2 :=
  length_of_lookupStandard hrow v 0

theorem length_of_imm16 {op : Byte} {k : Word → Instr} (hrow : lookupStandard op = some (.imm16 k))
    (v : Word) : (k v).length = 3 :=
  length_of_lookupStandard hrow 0 v

theorem length_of_lookupExtended {op : Byte} {i : Instr} (hrow : lookupExtended op = some i) :
    i.length = 2 := by
  have htable : (extendedTable.map fun row => row.2.length) = extendedTable.map fun _ => 2 := rfl
  exact List.map_inj_left.mp htable _ (mem_of_lookup_eq_some hrow)

/-- A step at an instruction with an immediate short runs it with that short and `pc` past its three
bytes. -/
theorem step_of_imm16 {s : State} {k : Word → Instr} (hfault : s.fault = none)
    (hprefix : s.read8 s.pc ≠ kaoboy.prefixByte) (hrow : lookupStandard (s.read8 s.pc) = some (.imm16 k)) :
    step s = exec (k (joinBytes (s.read8 (s.pc + 1)) (s.read8 (s.pc + 2)))) (s.setPc (s.pc + 3)) := by
  rw [step_eq s hfault, fetchInstr_eq, if_neg hprefix, hrow]

/-- A step at an instruction of the extended table runs it with `pc` past its two bytes. -/
theorem step_of_extended {s : State} {i : Instr} (hfault : s.fault = none)
    (hprefix : s.read8 s.pc = kaoboy.prefixByte) (hrow : lookupExtended (s.read8 (s.pc + 1)) = some i) :
    step s = exec i (s.setPc (s.pc + 2)) := by
  rw [step_eq s hfault, fetchInstr_eq, if_pos hprefix, hrow]

/-- Settles O5: for each kind of row, the step reads the bytes the decoder reads, and the row's
instructions have the length by which `pc` advances. -/
theorem stepRunsDecodedInstruction : Obligations.StepRunsDecodedInstruction := by
  intro s i rest hfault hdecode _
  cases decode_eq_ok_iff_readsRow.mp hdecode with
  | plain hprefix hrow =>
    rw [length_of_plain hrow]
    exact step_of_plain hfault hprefix hrow
  | imm8 hprefix hrow =>
    rw [length_of_imm8 hrow]
    exact step_of_imm8 hfault hprefix hrow
  | imm16 hprefix hrow =>
    rw [length_of_imm16 hrow]
    exact step_of_imm16 hfault hprefix hrow
  | extended hprefix hrow =>
    rw [length_of_lookupExtended hrow]
    exact step_of_extended hfault hprefix hrow

end Sys2Proof.Proofs

namespace Sys2Proof.Proofs

open Sys2Proof.Machine Sys2Proof.Claims

/-! ### Bytes that decode, and frames of register writes -/

/-- A word is decoded to an instruction when it is the instruction's encoding. -/
theorem decodesAs_of_encode_eq {bytes : List Byte} {i : Instr} (hencode : encode i = bytes) :
    DecodesAs bytes i := fun rest => hencode ▸ decodeOfEncode i rest trivial

theorem setReg_onlyRegs (s : State) (r : ByteReg) (v : Byte) : OnlyRegs s (s.setReg r v) [r] := by
  refine ⟨fun q hq => ?regs, State.setReg_sp s r v, State.setReg_pc s r v,
    State.setReg_read8 s r v, State.setReg_video s r v, State.setReg_fault s r v⟩
  rw [State.reg_setReg, if_neg (List.ne_of_not_mem_cons hq).symm]

theorem onlyRegs_trans {s t u : State} {first second : List ByteReg} (hfirst : OnlyRegs s t first)
    (hsecond : OnlyRegs t u second) : OnlyRegs s u (first ++ second) := by
  obtain ⟨hregs₁, hsp₁, hpc₁, hmem₁, hvideo₁, hfault₁⟩ := hfirst
  obtain ⟨hregs₂, hsp₂, hpc₂, hmem₂, hvideo₂, hfault₂⟩ := hsecond
  refine ⟨fun q hq => ?regs, hsp₂.trans hsp₁, hpc₂.trans hpc₁,
    fun x => (hmem₂ x).trans (hmem₁ x), hvideo₂.trans hvideo₁, hfault₂.trans hfault₁⟩
  obtain ⟨hq₁, hq₂⟩ := (List.mem_append.not.trans not_or).mp hq
  exact (hregs₂ q hq₂).trans (hregs₁ q hq₁)

theorem set_f_onlyRegs (s : State) (f : Byte) : OnlyRegs s { s with f := f } [.f] :=
  setReg_onlyRegs s .f f

theorem set_a_f_onlyRegs (s : State) (a f : Byte) : OnlyRegs s { s with a := a, f := f } [.a, .f] :=
  onlyRegs_trans (setReg_onlyRegs s .a a) (set_f_onlyRegs (s.setReg .a a) f)

/-! ### Running a form on its operand -/

theorem exec_of_meaning {k : Form} {op : State → Result} (hrun : k.meaning = op) (s : State) :
    exec k.instr s = op s := by
  rw [exec_form, hrun]

theorem readSource_reg (s : State) (r : ByteReg) :
    s.readSource (.of (.reg r)) = (s.reg r, s) := by
  rw [State.readSource_of, State.readPlace_reg]

theorem readSource_mem (s : State) (p : Pair) :
    s.readSource (.of (.mem p)) = (s.read8 (s.pair p), s) := by
  rw [State.readSource_of, State.readPlace_mem]

/-! ### Add (40_arith_logic.md R111, R115 to R117) -/

/-- A form that runs `addA` on a source that reads as `v` adds `v` to A. -/
theorem addsToA_of_meaning {k : Form} {src : ByteSource} {v : Byte} {s : State}
    (hread : s.readSource src = (v, s)) (hrun : k.meaning = addA src) : AddsToA k.instr s v := by
  have hexec := (exec_of_meaning hrun s).trans (addA_eq hread)
  have hresult := opAdd_result s.a v s
  have hflags := opAdd_flags s.a v s
  rw [← hresult] at hflags
  exact ⟨_, hexec, hresult, hflags, set_a_f_onlyRegs s _ _⟩

theorem encode_addReg (r : OpReg) : encode (Form.addReg r).instr = [0x80 + r.code] := by
  cases r <;> rfl

/-- Settles O24: every operand form runs the one addition, on the value its source reads. -/
theorem addResult : Obligations.AddResult :=
  ⟨fun r s => ⟨decodesAs_of_encode_eq (encode_addReg r),
      addsToA_of_meaning (readSource_reg s r.byteReg) rfl⟩,
    fun s => ⟨decodesAs_of_encode_eq rfl, addsToA_of_meaning (readSource_mem s .hl) rfl⟩,
    fun d8 s => ⟨decodesAs_of_encode_eq rfl, addsToA_of_meaning (State.readSource_imm s d8) rfl⟩⟩

/-! ### Subtract (40_arith_logic.md R112, R118 to R120) -/

/-- The difference modulo 256, by whether there is a borrow. -/
theorem opSub_result_by_borrow (l r : Byte) (s : State) :
    (opSub l r s).1.toNat =
      if r.toNat ≤ l.toNat then l.toNat - r.toNat else l.toNat + 256 - r.toNat := by
  have hl := l.isLt
  have hr := r.isLt
  rw [opSub_result]
  split <;> omega

theorem opSub_result_eq_zero_iff (l r : Byte) (s : State) :
    (opSub l r s).1.toNat = 0 ↔ l.toNat = r.toNat := by
  have hl := l.isLt
  have hr := r.isLt
  rw [opSub_result]
  omega

/-- A form that runs `subA` on a source that reads as `v` subtracts `v` from A. -/
theorem subtractsFromA_of_meaning {k : Form} {src : ByteSource} {v : Byte} {s : State}
    (hread : s.readSource src = (v, s)) (hrun : k.meaning = subA src) :
    SubtractsFromA k.instr s v := by
  have hexec := (exec_of_meaning hrun s).trans (subA_eq hread)
  have hflags := opSub_flags s.a v s
  rw [← decide_eq_decide.mpr (opSub_result_eq_zero_iff s.a v s)] at hflags
  exact ⟨_, hexec, opSub_result_by_borrow s.a v s, hflags, set_a_f_onlyRegs s _ _⟩

theorem encode_subReg (r : OpReg) : encode (Form.subReg r).instr = [0x90 + r.code] := by
  cases r <;> rfl

/-- Settles O25: every operand form runs the one subtraction, on the value its source reads; the
difference is 0 exactly when the operands are equal. -/
theorem subResult : Obligations.SubResult :=
  ⟨fun r s => ⟨decodesAs_of_encode_eq (encode_subReg r),
      subtractsFromA_of_meaning (readSource_reg s r.byteReg) rfl⟩,
    fun s => ⟨decodesAs_of_encode_eq rfl, subtractsFromA_of_meaning (readSource_mem s .hl) rfl⟩,
    fun d8 s => ⟨decodesAs_of_encode_eq rfl,
      subtractsFromA_of_meaning (State.readSource_imm s d8) rfl⟩⟩

/-! ### Exclusive or (40_arith_logic.md R113, R121 to R123) -/

/-- A form that runs `xorA` on a source that reads as `v` puts the exclusive or with `v` into A. -/
theorem xorsIntoA_of_meaning {k : Form} {src : ByteSource} {v : Byte} {s : State}
    (hread : s.readSource src = (v, s)) (hrun : k.meaning = xorA src) : XorsIntoA k.instr s v := by
  have hexec := (exec_of_meaning hrun s).trans (xorA_eq hread)
  have hflags := opXor_flags s.a v s
  rw [decide_eq_decide.mpr (toNat_eq_zero_iff (s.a ^^^ v))] at hflags
  exact ⟨_, hexec, fun _ _ => BitVec.getLsbD_xor, hflags, set_a_f_onlyRegs s _ _⟩

theorem encode_xorReg (r : OpReg) : encode (Form.xorReg r).instr = [0xA8 + r.code] := by
  cases r <;> rfl

/-- Settles O26: every operand form runs the one exclusive or, on the value its source reads. -/
theorem xorResult : Obligations.XorResult :=
  ⟨fun r s => ⟨decodesAs_of_encode_eq (encode_xorReg r),
      xorsIntoA_of_meaning (readSource_reg s r.byteReg) rfl⟩,
    fun s => ⟨decodesAs_of_encode_eq rfl, xorsIntoA_of_meaning (readSource_mem s .hl) rfl⟩,
    fun d8 s => ⟨decodesAs_of_encode_eq rfl, xorsIntoA_of_meaning (State.readSource_imm s d8) rfl⟩⟩

/-! ### Compare (40_arith_logic.md R114, R124 to R126) -/

/-- A form that runs `cpA` on a source that reads as `v` compares A with `v`. -/
theorem comparesA_of_meaning {k : Form} {src : ByteSource} {v : Byte} {s : State}
    (hread : s.readSource src = (v, s)) (hrun : k.meaning = cpA src) : ComparesA k.instr s v := by
  have hexec := (exec_of_meaning hrun s).trans (cpA_eq hread)
  have hflags := opSub_flags s.a v s
  rw [decide_eq_decide.mpr BitVec.toNat_inj] at hflags
  exact ⟨_, hexec, hflags, set_f_onlyRegs s _⟩

theorem encode_cpReg (r : OpReg) : encode (Form.cpReg r).instr = [0xB8 + r.code] := by
  cases r <;> rfl

/-- Settles O27: every operand form runs the one comparison, on the value its source reads; a compare
writes the flags of a subtraction and no register but F. -/
theorem compareResult : Obligations.CompareResult :=
  ⟨fun r s => ⟨decodesAs_of_encode_eq (encode_cpReg r),
      comparesA_of_meaning (readSource_reg s r.byteReg) rfl⟩,
    fun s => ⟨decodesAs_of_encode_eq rfl, comparesA_of_meaning (readSource_mem s .hl) rfl⟩,
    fun d8 s => ⟨decodesAs_of_encode_eq rfl, comparesA_of_meaning (State.readSource_imm s d8) rfl⟩⟩

end Sys2Proof.Proofs

namespace Sys2Proof.Proofs

open Sys2Proof.Machine Sys2Proof.Claims

/-! ### Frames of an update in place -/

theorem onlyRegs_of_subset {s t : State} {changed wider : List ByteReg} (hsub : changed ⊆ wider)
    (h : OnlyRegs s t changed) : OnlyRegs s t wider := by
  obtain ⟨hregs, hrest⟩ := h
  exact ⟨fun q hq => hregs q fun hmem => hq (hsub hmem), hrest⟩

theorem write8_onlyByte (s : State) (a : Word) (v : Byte) : OnlyByte s (s.write8 a v) a [] :=
  ⟨fun q _ => State.reg_write8 s a v q, rfl, rfl,
    fun _ hx => (State.read8_write8 s a _ v).trans (if_neg hx), rfl, rfl⟩

theorem onlyByte_of_onlyRegs_trans {s t u : State} {a : Word} {first second : List ByteReg}
    (hfirst : OnlyRegs s t first) (hsecond : OnlyByte t u a second) :
    OnlyByte s u a (first ++ second) := by
  obtain ⟨hregs₁, hsp₁, hpc₁, hmem₁, hvideo₁, hfault₁⟩ := hfirst
  obtain ⟨hregs₂, hsp₂, hpc₂, hmem₂, hvideo₂, hfault₂⟩ := hsecond
  refine ⟨fun q hq => ?regs, hsp₂.trans hsp₁, hpc₂.trans hpc₁,
    fun x hx => (hmem₂ x hx).trans (hmem₁ x), hvideo₂.trans hvideo₁, hfault₂.trans hfault₁⟩
  obtain ⟨hq₁, hq₂⟩ := (List.mem_append.not.trans not_or).mp hq
  exact (hregs₂ q hq₂).trans (hregs₁ q hq₁)

theorem setSp_onlySp (s : State) (v : Word) : OnlySp s (s.setSp v) :=
  ⟨fun q _ => State.reg_setSp s v q, rfl, fun _ => rfl, rfl, rfl⟩

/-! ### An operation applied to a byte in place (41_inc_dec.md R132 to R135) -/

/-- A byte operation that changes no state but F: the operation functions of 41_inc_dec.md and
42_bit_rotate.md. -/
def WritesOnlyF (op : Byte → State → Byte × State) : Prop :=
  ∀ (v : Byte) (s : State), (op v s).2 = { s with f := (op v s).2.f }

section
variable {op : Byte → State → Byte × State}

theorem WritesOnlyF.onlyRegs (hop : WritesOnlyF op) (v : Byte) (s : State) :
    OnlyRegs s (op v s).2 [.f] := by
  rw [hop v s]
  exact set_f_onlyRegs s _

theorem WritesOnlyF.pair_hl (hop : WritesOnlyF op) (v : Byte) (s : State) :
    (op v s).2.pair .hl = s.pair .hl := by
  rw [hop v s]
  rfl

theorem reg_modifyByte_reg (op : Byte → State → Byte × State) (r : ByteReg) (s : State) :
    (modifyByte op (.reg r) s).reg r = (op (s.reg r) s).1 := by
  rw [modifyByte_reg, State.reg_setReg, if_pos rfl]

/-- No operand register is F, so the result does not disturb the flags. -/
theorem f_modifyByte_reg (op : Byte → State → Byte × State) (r : OpReg) (s : State) :
    (modifyByte op (.reg r.byteReg) s).f = (op (s.reg r.byteReg) s).2.f := by
  have hr : r.byteReg ≠ .f := by cases r <;> decide
  rw [modifyByte_reg, State.setReg_f, if_neg hr]

theorem modifyByte_reg_onlyRegs (hop : WritesOnlyF op) (r : ByteReg) (s : State) :
    OnlyRegs s (modifyByte op (.reg r) s) [r, .f] :=
  onlyRegs_of_subset (List.Perm.swap r .f []).subset
    (onlyRegs_trans (hop.onlyRegs (s.reg r) s) (setReg_onlyRegs _ r _))

/-- The byte at HL is modified at the address HL held before. -/
theorem modifyByte_memHl (hop : WritesOnlyF op) (s : State) :
    modifyByte op (.mem .hl) s =
      (op (s.read8 (s.pair .hl)) s).2.write8 (s.pair .hl) (op (s.read8 (s.pair .hl)) s).1 := by
  rw [modifyByte_mem, hop.pair_hl]

theorem read8_modifyByte_memHl (hop : WritesOnlyF op) (s : State) :
    (modifyByte op (.mem .hl) s).read8 (s.pair .hl) = (op (s.read8 (s.pair .hl)) s).1 := by
  rw [modifyByte_memHl hop, State.read8_write8, if_pos rfl]

theorem f_modifyByte_mem (op : Byte → State → Byte × State) (p : Pair) (s : State) :
    (modifyByte op (.mem p) s).f = (op (s.read8 (s.pair p)) s).2.f := by
  rw [modifyByte_mem, State.write8_f]

theorem modifyByte_memHl_onlyByte (hop : WritesOnlyF op) (s : State) :
    OnlyByte s (modifyByte op (.mem .hl) s) (s.pair .hl) [.f] := by
  rw [modifyByte_memHl hop]
  exact onlyByte_of_onlyRegs_trans (hop.onlyRegs _ s) (write8_onlyByte _ _ _)

end

/-! ### Increment of a byte (41_inc_dec.md R130, R132, R133) -/

theorem opInc_result_eq_zero_iff (v : Byte) (s : State) :
    (opInc v s).1.toNat = 0 ↔ v.toNat = 255 := by
  have hv := v.isLt
  rw [opInc_result]
  omega

/-- A state with the F of `opInc` carries the flags of an increment. -/
theorem incFlags_of_opInc {s t : State} {v res : Byte} (hres : res = (opInc v s).1)
    (hf : t.f = (opInc v s).2.f) : IncFlags s t v res := by
  subst hres
  have hflags := opInc_flags v s
  rw [← hf, ← decide_eq_decide.mpr (opInc_result_eq_zero_iff v s)] at hflags
  exact ⟨opInc_result v s, hflags⟩

theorem encode_incReg (r : OpReg) : encode (Form.incReg r).instr = [0x04 + 8 * r.code] := by
  cases r <;> rfl

/-- Settles O28: both operand forms run the one increment in place, which writes F and the operand. -/
theorem incByteResult : Obligations.IncByteResult :=
  ⟨fun r s => ⟨decodesAs_of_encode_eq (encode_incReg r),
      modifyByte opInc (.reg r.byteReg) s, exec_of_meaning rfl s,
      incFlags_of_opInc (reg_modifyByte_reg opInc r.byteReg s) (f_modifyByte_reg opInc r s),
      modifyByte_reg_onlyRegs opInc_frame r.byteReg s⟩,
    fun s => ⟨decodesAs_of_encode_eq rfl,
      modifyByte opInc (.mem .hl) s, exec_of_meaning rfl s,
      incFlags_of_opInc (read8_modifyByte_memHl opInc_frame s) (f_modifyByte_mem opInc .hl s),
      modifyByte_memHl_onlyByte opInc_frame s⟩⟩

/-! ### Decrement of a byte (41_inc_dec.md R131, R134, R135) -/

theorem opDec_result_eq_zero_iff (v : Byte) (s : State) :
    (opDec v s).1.toNat = 0 ↔ v.toNat = 1 := by
  have hv := v.isLt
  rw [opDec_result]
  omega

/-- A state with the F of `opDec` carries the flags of a decrement. -/
theorem decFlags_of_opDec {s t : State} {v res : Byte} (hres : res = (opDec v s).1)
    (hf : t.f = (opDec v s).2.f) : DecFlags s t v res := by
  subst hres
  have hflags := opDec_flags v s
  rw [← hf, ← decide_eq_decide.mpr (opDec_result_eq_zero_iff v s)] at hflags
  exact ⟨opDec_result v s, hflags⟩

theorem encode_decReg (r : OpReg) : encode (Form.decReg r).instr = [0x05 + 8 * r.code] := by
  cases r <;> rfl

/-- Settles O29: both operand forms run the one decrement in place, which writes F and the operand. -/
theorem decByteResult : Obligations.DecByteResult :=
  ⟨fun r s => ⟨decodesAs_of_encode_eq (encode_decReg r),
      modifyByte opDec (.reg r.byteReg) s, exec_of_meaning rfl s,
      decFlags_of_opDec (reg_modifyByte_reg opDec r.byteReg s) (f_modifyByte_reg opDec r s),
      modifyByte_reg_onlyRegs opDec_frame r.byteReg s⟩,
    fun s => ⟨decodesAs_of_encode_eq rfl,
      modifyByte opDec (.mem .hl) s, exec_of_meaning rfl s,
      decFlags_of_opDec (read8_modifyByte_memHl opDec_frame s) (f_modifyByte_mem opDec .hl s),
      modifyByte_memHl_onlyByte opDec_frame s⟩⟩

/-! ### Increment and decrement of a short (41_inc_dec.md R136 to R139) -/

theorem word_add_one_toNat (v : Word) : (v + 1).toNat = (v.toNat + 1) % 65536 :=
  BitVec.toNat_add v 1

theorem word_sub_one_toNat (v : Word) : (v - 1).toNat = (v.toNat + 65535) % 65536 := by
  rw [BitVec.toNat_sub, Nat.add_comm]
  rfl

theorem incShort_pair (p : Pair) (s : State) :
    incShort (.pair p) s = .next (s.setPair p (s.pair p + 1)) := rfl

theorem incShort_sp (s : State) : incShort .sp s = .next (s.setSp (s.sp + 1)) := rfl

theorem decShort_pair (p : Pair) (s : State) :
    decShort (.pair p) s = .next (s.setPair p (s.pair p - 1)) := rfl

theorem decShort_sp (s : State) : decShort .sp s = .next (s.setSp (s.sp - 1)) := rfl

theorem encode_incPair (p : OpPair) : encode (Form.incPair p).instr = [0x03 + 16 * p.code] := by
  cases p <;> rfl

theorem encode_decPair (p : OpPair) : encode (Form.decPair p).instr = [0x0B + 16 * p.code] := by
  cases p <;> rfl

theorem pair_setPair_add_one_toNat (s : State) (p : Pair) :
    ((s.setPair p (s.pair p + 1)).pair p).toNat = ((s.pair p).toNat + 1) % 65536 := by
  rw [State.pair_setPair_same, word_add_one_toNat]

theorem pair_setPair_sub_one_toNat (s : State) (p : Pair) :
    ((s.setPair p (s.pair p - 1)).pair p).toNat = ((s.pair p).toNat + 65535) % 65536 := by
  rw [State.pair_setPair_same, word_sub_one_toNat]

/-- Settles O30: the pair or `sp` is written with its successor, and nothing else is. -/
theorem incShortResult : Obligations.IncShortResult :=
  ⟨fun p s => ⟨decodesAs_of_encode_eq (encode_incPair p),
      _, (exec_of_meaning rfl s).trans (incShort_pair p.pair s),
      pair_setPair_add_one_toNat s p.pair, setPair_onlyRegs s p.pair _⟩,
    fun s => ⟨decodesAs_of_encode_eq rfl,
      _, (exec_of_meaning rfl s).trans (incShort_sp s),
      word_add_one_toNat s.sp, setSp_onlySp s _⟩⟩

/-- Settles O31: the pair or `sp` is written with its predecessor, and nothing else is. -/
theorem decShortResult : Obligations.DecShortResult :=
  ⟨fun p s => ⟨decodesAs_of_encode_eq (encode_decPair p),
      _, (exec_of_meaning rfl s).trans (decShort_pair p.pair s),
      pair_setPair_sub_one_toNat s p.pair, setPair_onlyRegs s p.pair _⟩,
    fun s => ⟨decodesAs_of_encode_eq rfl,
      _, (exec_of_meaning rfl s).trans (decShort_sp s),
      word_sub_one_toNat s.sp, setSp_onlySp s _⟩⟩

end Sys2Proof.Proofs

namespace Sys2Proof.Proofs

open Sys2Proof.Machine Sys2Proof.Claims

/-! ### The bits of a byte rotated left by one (42_bit_rotate.md R146, R147) -/

/-- Doubling modulo 256 and adding a bit puts that bit below the low seven bits. -/
theorem toNat_double_add_eq_bit (v : Byte) (bit0 : Bool) :
    v.toNat * 2 % 256 + bit0.toNat = Nat.bit bit0 (v.toNat % 2 ^ 7) := by
  rw [Nat.bit_val]
  omega

theorem rotatedLeft_of_toNat {s t : State} {v res : Byte} {bit0 zero : Bool}
    (hres : res.toNat = v.toNat * 2 % 256 + bit0.toNat)
    (hflags : FlagsWritten s.f t.f zero false false (v.getLsbD 7)) :
    RotatedLeft s t v res bit0 zero := by
  rw [toNat_double_add_eq_bit] at hres
  refine ⟨?low, fun n hn => ?high, hflags⟩
  case low => rw [BitVec.getLsbD, hres, Nat.testBit_bit_zero]
  case high =>
    rw [BitVec.getLsbD, hres, Nat.testBit_bit_succ, Nat.testBit_mod_two_pow, decide_eq_true hn,
      Bool.true_and, BitVec.getLsbD]

theorem getLsbD_seven_toNat (v : Byte) : (v.getLsbD 7).toNat = v.toNat / 128 := by
  have hv := v.isLt
  rw [BitVec.getLsbD, Nat.toNat_testBit]
  omega

/-- RLCA and RLA clear the zero flag (decision D11). -/
theorem rotateZero_zClear (res : Byte) : rotateZero .zClear res = false := rfl

theorem rotateZero_zResult (res : Byte) : rotateZero .zResult res = decide (res.toNat = 0) :=
  decide_eq_decide.mpr (toNat_eq_zero_iff res)

/-- A byte operation that changes no state but F, rotates its byte left by one with `bit0` coming in, and
writes the zero flag by `zero` of the result. -/
structure RotatesLeft (op : Byte → State → Byte × State) (bit0 : Byte → State → Bool)
    (zero : Byte → Bool) : Prop where
  onlyF : WritesOnlyF op
  rotated : ∀ (v : Byte) (s : State),
    RotatedLeft s (op v s).2 v (op v s).1 (bit0 v s) (zero (op v s).1)

/-- The circular rotate brings in the old bit 7 (42_bit_rotate.md R146). -/
theorem opRlc_rotatesLeft {m : ZMode} {zero : Byte → Bool}
    (hzero : ∀ res, rotateZero m res = zero res) :
    RotatesLeft (opRlc m) (fun v _ => v.getLsbD 7) zero where
  onlyF := opRlc_frame m
  rotated v s := by
    have hresult := opRlc_result m v s
    have hflags := opRlc_flags m v s
    rw [← getLsbD_seven_toNat] at hresult
    rw [hzero] at hflags
    exact rotatedLeft_of_toNat hresult hflags

/-- The rotate through the carry brings in the old carry (42_bit_rotate.md R147). -/
theorem opRl_rotatesLeft {m : ZMode} {zero : Byte → Bool}
    (hzero : ∀ res, rotateZero m res = zero res) :
    RotatesLeft (opRl m) (fun _ s => s.f.getLsbD 4) zero where
  onlyF := opRl_frame m
  rotated v s := by
    have hflags := opRl_flags m v s
    rw [hzero] at hflags
    exact rotatedLeft_of_toNat (opRl_result m v s) hflags

/-! ### Rotate left (42_bit_rotate.md R148 to R153) -/

section
variable {op : Byte → State → Byte × State} {bit0 : Byte → State → Bool} {zero : Byte → Bool}
  {k : Form}

/-- A form that applies a rotate in place to a byte register rotates that register. -/
theorem RotatesLeft.exec_reg (hop : RotatesLeft op bit0 zero) (r : OpReg)
    (hrun : k.meaning = fun s => .next (modifyByte op (.reg r.byteReg) s)) (s : State) :
    ∃ t, exec k.instr s = .next t ∧
      RotatedLeft s t (s.reg r.byteReg) (t.reg r.byteReg) (bit0 (s.reg r.byteReg) s)
        (zero (t.reg r.byteReg)) ∧ OnlyRegs s t [r.byteReg, .f] := by
  refine ⟨_, exec_of_meaning hrun s, ?rotated, modifyByte_reg_onlyRegs hop.onlyF r.byteReg s⟩
  rw [RotatedLeft, reg_modifyByte_reg, f_modifyByte_reg]
  exact hop.rotated _ s

/-- A form that applies a rotate in place to the byte at HL rotates that byte. -/
theorem RotatesLeft.exec_memHl (hop : RotatesLeft op bit0 zero)
    (hrun : k.meaning = fun s => .next (modifyByte op (.mem .hl) s)) (s : State) :
    ∃ t, exec k.instr s = .next t ∧
      RotatedLeft s t (s.read8 (s.pair .hl)) (t.read8 (s.pair .hl)) (bit0 (s.read8 (s.pair .hl)) s)
        (zero (t.read8 (s.pair .hl))) ∧ OnlyByte s t (s.pair .hl) [.f] := by
  refine ⟨_, exec_of_meaning hrun s, ?rotated, modifyByte_memHl_onlyByte hop.onlyF s⟩
  rw [RotatedLeft, read8_modifyByte_memHl hop.onlyF, f_modifyByte_mem]
  exact hop.rotated _ s

end

/-- Settles O32: RLCA and RLA are the two rotates in place on A, with the zero flag cleared. -/
theorem accumulatorRotateResult : Obligations.AccumulatorRotateResult :=
  ⟨fun s => ⟨decodesAs_of_encode_eq rfl,
      (opRlc_rotatesLeft rotateZero_zClear).exec_reg .a rfl s⟩,
    fun s => ⟨decodesAs_of_encode_eq rfl,
      (opRl_rotatesLeft rotateZero_zClear).exec_reg .a rfl s⟩⟩

theorem encode_rlcReg (r : OpReg) : encode (Form.rlcReg r).instr = [0xCB, 0x00 + r.code] := by
  cases r <;> rfl

/-- Settles O33: both operand forms run the one circular rotate in place, which writes F and the
operand. -/
theorem rotateCircularResult : Obligations.RotateCircularResult :=
  ⟨fun r s => ⟨decodesAs_of_encode_eq (encode_rlcReg r),
      (opRlc_rotatesLeft rotateZero_zResult).exec_reg r rfl s⟩,
    fun s => ⟨decodesAs_of_encode_eq rfl,
      (opRlc_rotatesLeft rotateZero_zResult).exec_memHl rfl s⟩⟩

theorem encode_rlReg (r : OpReg) : encode (Form.rlReg r).instr = [0xCB, 0x10 + r.code] := by
  cases r <;> rfl

/-- Settles O34: both operand forms run the one rotate through the carry in place, which writes F and the
operand. -/
theorem rotateThroughCarryResult : Obligations.RotateThroughCarryResult :=
  ⟨fun r s => ⟨decodesAs_of_encode_eq (encode_rlReg r),
      (opRl_rotatesLeft rotateZero_zResult).exec_reg r rfl s⟩,
    fun s => ⟨decodesAs_of_encode_eq rfl,
      (opRl_rotatesLeft rotateZero_zResult).exec_memHl rfl s⟩⟩

/-! ### Bit test (42_bit_rotate.md R154 to R156) -/

/-- A form that runs `bitTest n` on a source that reads as `v` tests bit `n` of `v`. -/
theorem testsBit_of_meaning {k : Form} {n : Fin 8} {src : ByteSource} {v : Byte} {s : State}
    (hread : s.readSource src = (v, s)) (hrun : k.meaning = bitTest n src) :
    TestsBit k.instr s n v :=
  ⟨_, (exec_of_meaning hrun s).trans (bitTest_eq hread), opBit_flags n v s, set_f_onlyRegs s _⟩

theorem encode_bitReg (n : Fin 8) (r : OpReg) :
    encode (Form.bitReg n r).instr = [0xCB, 0x40 + 8 * BitVec.ofNat 8 n + r.code] := by
  match n with
  | 0 | 1 | 2 | 3 | 4 | 5 | 6 | 7 => cases r <;> rfl

theorem encode_bitHl (n : Fin 8) :
    encode (Form.bitHl n).instr = [0xCB, 0x46 + 8 * BitVec.ofNat 8 n] := by
  match n with
  | 0 | 1 | 2 | 3 | 4 | 5 | 6 | 7 => rfl

/-- Settles O35: every form runs the one bit test, on the value its source reads; it writes no register
but F. -/
theorem bitTestResult : Obligations.BitTestResult :=
  ⟨fun n r s => ⟨decodesAs_of_encode_eq (encode_bitReg n r),
      testsBit_of_meaning (readSource_reg s r.byteReg) rfl⟩,
    fun n s => ⟨decodesAs_of_encode_eq (encode_bitHl n),
      testsBit_of_meaning (readSource_mem s .hl) rfl⟩⟩

end Sys2Proof.Proofs

namespace Sys2Proof.Proofs

open Sys2Proof.Machine Sys2Proof.Claims

/-! ### The conditions (43_jump_call_return.md R165) -/

/-- Settles O23: a condition is a flag or its negation, and a flag is its bit of F. -/
theorem condReadsFlags : Obligations.CondReadsFlags := fun s cc => by
  cases cc with
  | nz | nc => exact congrArg not (State.flag_eq s _)
  | z | c => exact State.flag_eq s _

/-! ### Kept parts of the state, one run after another -/

theorem regsKept_trans {s t u : State} {changed : List ByteReg} (hfirst : RegsKept s t changed)
    (hsecond : RegsKept t u changed) : RegsKept s u changed :=
  fun q hq => (hsecond q hq).trans (hfirst q hq)

theorem restKept_trans {s t u : State} (hfirst : RestKept s t) (hsecond : RestKept t u) :
    RestKept s u := by
  obtain ⟨hvideo₁, hfault₁⟩ := hfirst
  obtain ⟨hvideo₂, hfault₂⟩ := hsecond
  exact ⟨hvideo₂.trans hvideo₁, hfault₂.trans hfault₁⟩

/-! ### Jump relative (43_jump_call_return.md R166, R167) -/

theorem signedByte_eq_toInt (d : Byte) : signedByte d = d.toInt := by
  rw [signedByte, BitVec.toInt_eq_toNat_cond]
  split <;> split <;> omega

/-- Adding the sign-extended displacement is the signed sum modulo 65536 (decision D2). -/
theorem add_sext16_toNat (a : Word) (d : Byte) :
    ((a + sext16 d).toNat : Int) = ((a.toNat : Int) + signedByte d) % 65536 := by
  rw [signedByte_eq_toInt, BitVec.toNat_add, sext16, BitVec.signExtend, BitVec.toNat_ofInt]
  omega

theorem jumpsRelative_of_exec {i : Instr} {s : State} {taken : Bool} {d : Byte}
    (hexec : exec i s = jumpRelative taken d s) : JumpsRelative i s taken d := by
  rw [jumpRelative_eq] at hexec
  refine ⟨_, hexec, ?_⟩
  cases taken with
  | true =>
    exact ⟨add_sext16_toNat s.pc d, fun q _ => State.reg_setPc s _ q, rfl, fun _ => rfl, rfl, rfl⟩
  | false => exact ⟨rfl, fun _ _ => rfl, rfl, fun _ => rfl, rfl, rfl⟩

theorem exec_jrCond (cc : Cond) (d : Byte) (s : State) :
    exec (Form.jrCond cc d).instr s = jumpRelative (condHolds s.f cc) d s := by
  rw [← condReadsFlags s cc]
  exact exec_of_meaning rfl s

theorem encode_jrCond (cc : Cond) (d : Byte) :
    encode (Form.jrCond cc d).instr = [0x20 + 8 * cc.code, d] := by
  cases cc <;> rfl

/-- Settles O36: all five forms run the one relative jump, taken as their condition says. -/
theorem jumpRelativeResult : Obligations.JumpRelativeResult :=
  ⟨fun _ s => ⟨decodesAs_of_encode_eq rfl, jumpsRelative_of_exec (exec_of_meaning rfl s)⟩,
    fun cc d s => ⟨decodesAs_of_encode_eq (encode_jrCond cc d),
      jumpsRelative_of_exec (exec_jrCond cc d s)⟩⟩

/-! ### Call (43_jump_call_return.md R168, R169) -/

theorem exec_callForm (a16 : Word) (call : Option Cond) (s : State) :
    exec (callForm a16 call).instr s = callAbsolute (guardHolds s.f call) a16 s := by
  cases call with
  | none => exact exec_of_meaning rfl s
  | some cc =>
    rw [guardHolds, ← condReadsFlags s cc]
    exact exec_of_meaning rfl s

theorem calls_of_exec {i : Instr} {s : State} {taken : Bool} {a16 : Word}
    (hexec : exec i s = callAbsolute taken a16 s) : Calls i s taken a16 := by
  rw [callAbsolute_eq] at hexec
  refine ⟨_, hexec, ?_⟩
  cases taken with
  | true =>
    have hregs : RegsKept s ((s.push s.pc).setPc a16) [] := fun q _ => by
      rw [State.reg_setPc, State.reg_push]
    exact ⟨hregs, ⟨rfl, rfl⟩, rfl, push_pushedShort s s.pc⟩
  | false => exact ⟨fun _ _ => rfl, ⟨rfl, rfl⟩, rfl, rfl, fun _ => rfl⟩

theorem calls_callForm (a16 : Word) (call : Option Cond) (s : State) :
    Calls (callForm a16 call).instr s (guardHolds s.f call) a16 :=
  calls_of_exec (exec_callForm a16 call s)

theorem encodeOpImm16_joinBytes (op hi lo : Byte) :
    encodeOpImm16 op (joinBytes hi lo) = [op, hi, lo] := by
  rw [encodeOpImm16, firstByte_kaoboy, secondByte_kaoboy, hiByte_joinBytes, loByte_joinBytes]

theorem encode_callCond (cc : Cond) (a16 : Word) :
    encode (Form.callCond cc a16).instr = encodeOpImm16 (0xC4 + 8 * cc.code) a16 := by
  cases cc <;> rfl

/-- Settles O37: all five forms run the one call, taken as their condition says. -/
theorem callResult : Obligations.CallResult :=
  ⟨fun hi lo s => ⟨decodesAs_of_encode_eq (encodeOpImm16_joinBytes 0xCD hi lo),
      calls_callForm (joinBytes hi lo) none s⟩,
    fun cc hi lo s =>
      ⟨decodesAs_of_encode_eq ((encode_callCond cc _).trans (encodeOpImm16_joinBytes _ hi lo)),
        calls_callForm (joinBytes hi lo) (some cc) s⟩⟩

/-! ### Return (43_jump_call_return.md R170, R171) -/

theorem exec_retForm (back : Option Cond) (s : State) :
    exec (retForm back).instr s = returnFrom (guardHolds s.f back) s := by
  cases back with
  | none => exact exec_of_meaning rfl s
  | some cc =>
    rw [guardHolds, ← condReadsFlags s cc]
    exact exec_of_meaning rfl s

theorem returns_of_exec {i : Instr} {s : State} {taken : Bool}
    (hexec : exec i s = returnFrom taken s) : Returns i s taken := by
  rw [returnFrom_eq] at hexec
  refine ⟨_, hexec, ?_⟩
  cases taken with
  | true =>
    have hregs : RegsKept s ((s.setSp (s.sp + 2)).setPc (s.read16 s.sp)) [] := fun q _ => by
      rw [State.reg_setPc, State.reg_setSp]
    exact ⟨hregs, ⟨rfl, rfl⟩, fun _ => rfl, read16_toNat s s.sp, rfl⟩
  | false => exact ⟨fun _ _ => rfl, ⟨rfl, rfl⟩, fun _ => rfl, rfl, rfl⟩

theorem returns_retForm (back : Option Cond) (s : State) :
    Returns (retForm back).instr s (guardHolds s.f back) :=
  returns_of_exec (exec_retForm back s)

theorem encode_retCond (cc : Cond) : encode (Form.retCond cc).instr = [0xC0 + 8 * cc.code] := by
  cases cc <;> rfl

/-- Settles O38: all five forms run the one return, taken as their condition says. -/
theorem returnResult : Obligations.ReturnResult :=
  ⟨fun s => ⟨decodesAs_of_encode_eq rfl, returns_retForm none s⟩,
    fun cc s => ⟨decodesAs_of_encode_eq (encode_retCond cc), returns_retForm (some cc) s⟩⟩

/-! ### A return after a call (43_jump_call_return.md R173) -/

/-- What a pop would read after a push. -/
theorem read16_sp_of_pushedShort {s t : State} {v : Word}
    (h : PushedShort s t (hiByte v) (loByte v)) : t.read16 t.sp = v := by
  obtain ⟨hsp, hhi, hlo, -⟩ := h
  have hnext : s.sp - 2 + 1 = s.sp - 1 := by bv_omega
  rw [State.read16_eq, hsp, hnext, hhi, hlo, joinBytes_hiByte_loByte]

theorem calls_of_guardHolds {call : Option Cond} {s : State} (hguard : guardHolds s.f call = true)
    (a16 : Word) : Calls (callForm a16 call).instr s true a16 :=
  hguard ▸ calls_callForm a16 call s

theorem returns_of_guardHolds {back : Option Cond} {s : State} (hguard : guardHolds s.f back = true) :
    Returns (retForm back).instr s true :=
  hguard ▸ returns_retForm back s

/-- Settles O39: a call keeps F, so the return's condition still holds at the target; the return then
reads the pushed address, and the two moves of `sp` cancel. -/
theorem returnUndoesCall : Obligations.ReturnUndoesCall := by
  intro call back a16 s hcall hback
  obtain ⟨t, hexecCall, hregsCall, hrestCall, htarget, hpushed⟩ := calls_of_guardHolds hcall a16
  have hf : t.f = s.f := hregsCall .f List.not_mem_nil
  rw [← hf] at hback
  obtain ⟨u, hexecRet, hregsRet, hrestRet, hmemRet, hpcRet, hspRet⟩ := returns_of_guardHolds hback
  have hpc : u.pc = s.pc := by
    rw [← read16_toNat, read16_sp_of_pushedShort hpushed] at hpcRet
    exact BitVec.eq_of_toNat_eq hpcRet
  obtain ⟨hspCall, -, -, hkept⟩ := hpushed
  have hsp : u.sp = s.sp := by
    rw [hspRet, hspCall]
    exact BitVec.sub_add_cancel s.sp 2
  exact ⟨t, u, hexecCall, htarget, hexecRet, hpc, hsp, regsKept_trans hregsCall hregsRet,
    restKept_trans hrestCall hrestRet, fun x hhi hlo => (hmemRet x).trans (hkept x hhi hlo)⟩

end Sys2Proof.Proofs

namespace Sys2Proof.Proofs

open Sys2Proof.Machine Sys2Proof.Claims

/-! ### A byte copy into a register, and one into memory (44_load.md R180) -/

theorem readSource_of_readPlace {s t : State} {o : BytePlace} {v : Byte}
    (hread : s.readPlace o = (v, t)) : s.readSource (.of o) = (v, t) := by
  rw [State.readSource_of, hread]

/-- A form that copies a source that reads as `v` to a byte register loads that register with `v`. -/
theorem loadsReg_of_meaning {k : Form} {r : ByteReg} {src : ByteSource} {v : Byte} {s : State}
    (hread : s.readSource src = (v, s)) (hrun : k.meaning = copyByte (.reg r) src) :
    LoadsReg k.instr s r v := by
  have hcopy : copyByte (.reg r) src s = .next (s.setReg r v) := by
    rw [copyByte_eq, hread, State.assignPlace_reg]
  have hresult : (s.setReg r v).reg r = v := by rw [State.reg_setReg, if_pos rfl]
  exact ⟨_, (exec_of_meaning hrun s).trans hcopy, hresult, setReg_onlyRegs s r v⟩

/-- A form that copies a source that reads as `v` to a place in memory at `a` stores `v` at `a`. -/
theorem storesByte_of_meaning {k : Form} {dst : BytePlace} {src : ByteSource} {a : Word} {v : Byte}
    {s : State} (hread : s.readSource src = (v, s)) (hassign : s.assignPlace dst v = s.write8 a v)
    (hrun : k.meaning = copyByte dst src) : StoresByte k.instr s a v := by
  have hcopy : copyByte dst src s = .next (s.write8 a v) := by rw [copyByte_eq, hread, hassign]
  have hresult : (s.write8 a v).read8 a = v := by rw [State.read8_write8, if_pos rfl]
  exact ⟨_, (exec_of_meaning hrun s).trans hcopy, hresult, write8_onlyByte s a v⟩

/-! ### Register, (HL) and immediate (44_load.md R181 to R185) -/

theorem encode_ldReg (dst src : OpReg) :
    encode (Form.ldReg dst src).instr = [0x40 + 8 * dst.code + src.code] := by
  cases dst <;> cases src <;> rfl

/-- Settles O40: every register pair runs the one byte copy; a copy of a register to itself included. -/
theorem loadRegisterFromRegister : Obligations.LoadRegisterFromRegister := fun dst src s =>
  ⟨decodesAs_of_encode_eq (encode_ldReg dst src),
    loadsReg_of_meaning (readSource_reg s src.byteReg) rfl⟩

theorem encode_ldRegHl (dst : OpReg) :
    encode (Form.ldRegHl dst).instr = [0x46 + 8 * dst.code] := by
  cases dst <;> rfl

theorem encode_ldRegImm (dst : OpReg) (d8 : Byte) :
    encode (Form.ldRegImm dst d8).instr = [0x06 + 8 * dst.code, d8] := by
  cases dst <;> rfl

/-- Settles O41: the source is read before the register is written, so a load of H or L still reads at
the old HL. -/
theorem loadRegisterFromMemoryOrImmediate : Obligations.LoadRegisterFromMemoryOrImmediate :=
  ⟨fun dst s => ⟨decodesAs_of_encode_eq (encode_ldRegHl dst),
      loadsReg_of_meaning (readSource_mem s .hl) rfl⟩,
    fun dst d8 s => ⟨decodesAs_of_encode_eq (encode_ldRegImm dst d8),
      loadsReg_of_meaning (State.readSource_imm s d8) rfl⟩⟩

theorem encode_ldHlReg (src : OpReg) : encode (Form.ldHlReg src).instr = [0x70 + src.code] := by
  cases src <;> rfl

/-- Settles O42: both source forms run the one byte copy to the memory byte at HL. -/
theorem storeThroughHl : Obligations.StoreThroughHl :=
  ⟨fun src s => ⟨decodesAs_of_encode_eq (encode_ldHlReg src),
      storesByte_of_meaning (readSource_reg s src.byteReg) (State.assignPlace_mem s .hl _) rfl⟩,
    fun d8 s => ⟨decodesAs_of_encode_eq rfl,
      storesByte_of_meaning (State.readSource_imm s d8) (State.assignPlace_mem s .hl d8) rfl⟩⟩

/-! ### Through BC and DE (44_load.md R186 to R189) -/

/-- Settles O43: each form is the byte copy between A and the memory byte at its pair. -/
theorem indirectThroughBcDe : Obligations.IndirectThroughBcDe := fun s =>
  ⟨⟨decodesAs_of_encode_eq rfl, loadsReg_of_meaning (readSource_mem s .bc) rfl⟩,
    ⟨decodesAs_of_encode_eq rfl, loadsReg_of_meaning (readSource_mem s .de) rfl⟩,
    ⟨decodesAs_of_encode_eq rfl,
      storesByte_of_meaning (readSource_reg s .a) (State.assignPlace_mem s .bc s.a) rfl⟩,
    ⟨decodesAs_of_encode_eq rfl,
      storesByte_of_meaning (readSource_reg s .a) (State.assignPlace_mem s .de s.a) rfl⟩⟩

/-! ### Auto-index store (44_load.md R190, R191) -/

theorem onlyByte_trans_onlyRegs {s t u : State} {a : Word} {first second : List ByteReg}
    (hfirst : OnlyByte s t a first) (hsecond : OnlyRegs t u second) :
    OnlyByte s u a (first ++ second) := by
  obtain ⟨hregs₁, hsp₁, hpc₁, hmem₁, hrest₁⟩ := hfirst
  obtain ⟨hregs₂, hsp₂, hpc₂, hmem₂, hrest₂⟩ := hsecond
  refine ⟨fun q hq => ?regs, hsp₂.trans hsp₁, hpc₂.trans hpc₁,
    fun x hx => (hmem₂ x).trans (hmem₁ x hx), restKept_trans hrest₁ hrest₂⟩
  obtain ⟨hq₁, hq₂⟩ := (List.mem_append.not.trans not_or).mp hq
  exact (hregs₂ q hq₂).trans (hregs₁ q hq₁)

/-- A form that copies A to a place whose assignment stores at HL and then sets HL to `next`: the move
of HL comes after the store and does not disturb it. -/
theorem storeThenMove_of_meaning {k : Form} {dst : BytePlace} {next : Word} {n : Nat} {s : State}
    (hassign : s.assignPlace dst s.a = (s.write8 (s.pair .hl) s.a).setPair .hl next)
    (hnext : next.toNat = n) (hrun : k.meaning = copyByte dst (.of (.reg .a))) :
    ∃ t, exec k.instr s = .next t ∧ t.read8 (s.pair .hl) = s.a ∧ (t.pair .hl).toNat = n ∧
      OnlyByte s t (s.pair .hl) [.h, .l] := by
  have hcopy : copyByte dst (.of (.reg .a)) s =
      .next ((s.write8 (s.pair .hl) s.a).setPair .hl next) := by
    rw [copyByte_eq, readSource_reg, State.reg_a, hassign]
  refine ⟨_, (exec_of_meaning hrun s).trans hcopy, ?stored, ?moved,
    onlyByte_trans_onlyRegs (write8_onlyByte s _ s.a) (setPair_onlyRegs _ .hl next)⟩
  case stored => rw [State.setPair_read8, State.read8_write8, if_pos rfl]
  case moved => rw [State.pair_setPair_same, hnext]

/-- Settles O44: both forms store at the old HL and then move HL, by 1 up or down. -/
theorem autoIndexStore : Obligations.AutoIndexStore := fun s =>
  ⟨⟨decodesAs_of_encode_eq rfl, storeThenMove_of_meaning (State.assignPlace_memInc s s.a)
      (word_add_one_toNat (s.pair .hl)) rfl⟩,
    ⟨decodesAs_of_encode_eq rfl, storeThenMove_of_meaning (State.assignPlace_memDec s s.a)
      (word_sub_one_toNat (s.pair .hl)) rfl⟩⟩

/-! ### Auto-index load (44_load.md R192, R193) -/

/-- A form that copies to A a source that reads as `v` and then sets HL to `next`: A is not a half of
HL, so the write of A does not disturb the move. -/
theorem loadThenMove_of_meaning {k : Form} {src : ByteSource} {v : Byte} {next : Word} {n : Nat}
    {s : State} (hread : s.readSource src = (v, s.setPair .hl next)) (hnext : next.toNat = n)
    (hrun : k.meaning = copyByte (.reg .a) src) :
    ∃ t, exec k.instr s = .next t ∧ t.a = v ∧ (t.pair .hl).toNat = n ∧
      OnlyRegs s t [.a, .h, .l] := by
  have hcopy : copyByte (.reg .a) src s = .next ((s.setPair .hl next).setReg .a v) := by
    rw [copyByte_eq, hread, State.assignPlace_reg]
  have hpair : ((s.setPair .hl next).setReg .a v).pair .hl = (s.setPair .hl next).pair .hl := rfl
  have hframe : OnlyRegs s ((s.setPair .hl next).setReg .a v) ([.h, .l] ++ [.a]) :=
    onlyRegs_trans (setPair_onlyRegs s .hl next) (setReg_onlyRegs _ .a v)
  refine ⟨_, (exec_of_meaning hrun s).trans hcopy, rfl, ?moved,
    onlyRegs_of_subset List.perm_append_comm.subset hframe⟩
  rw [hpair, State.pair_setPair_same, hnext]

/-- Settles O45: both forms read at the old HL and then move HL, by 1 up or down. -/
theorem autoIndexLoad : Obligations.AutoIndexLoad := fun s =>
  ⟨⟨decodesAs_of_encode_eq rfl, loadThenMove_of_meaning
      (readSource_of_readPlace (State.readPlace_memInc s)) (word_add_one_toNat (s.pair .hl)) rfl⟩,
    ⟨decodesAs_of_encode_eq rfl, loadThenMove_of_meaning
      (readSource_of_readPlace (State.readPlace_memDec s)) (word_sub_one_toNat (s.pair .hl)) rfl⟩⟩

/-! ### The fast page (44_load.md R194 to R197) -/

theorem fastAddress_eq_ofNat (o : Byte) : fastAddress o = BitVec.ofNat 16 (0xFF00 + o.toNat) := by
  rw [← fastAddress_toNat, BitVec.ofNat_toNat, BitVec.setWidth_eq]

/-- Settles O46: each form is the byte copy between A and the fast page, whose address is a sum without
a wrap. -/
theorem fastPageLoadsAndStores : Obligations.FastPageLoadsAndStores := by
  intro o s
  rw [← fastAddress_eq_ofNat, ← fastAddress_eq_ofNat]
  exact ⟨⟨decodesAs_of_encode_eq rfl,
      storesByte_of_meaning (readSource_reg s .a) (State.assignPlace_fastImm s o s.a) rfl⟩,
    ⟨decodesAs_of_encode_eq rfl,
      loadsReg_of_meaning (readSource_of_readPlace (State.readPlace_fastImm s o)) rfl⟩,
    ⟨decodesAs_of_encode_eq rfl,
      storesByte_of_meaning (readSource_reg s .a) (State.assignPlace_fastC s s.a) rfl⟩,
    ⟨decodesAs_of_encode_eq rfl,
      loadsReg_of_meaning (readSource_of_readPlace (State.readPlace_fastC s)) rfl⟩⟩

/-! ### Absolute address (44_load.md R198, R199) -/

/-- Settles O47: each form is the byte copy between A and the address whose high byte is encoded
first. -/
theorem absoluteLoadAndStore : Obligations.AbsoluteLoadAndStore := fun hi lo s =>
  ⟨⟨decodesAs_of_encode_eq (encodeOpImm16_joinBytes 0xEA hi lo),
      storesByte_of_meaning (readSource_reg s .a) (State.assignPlace_memAbs s _ s.a) rfl⟩,
    ⟨decodesAs_of_encode_eq (encodeOpImm16_joinBytes 0xFA hi lo),
      loadsReg_of_meaning (readSource_of_readPlace (State.readPlace_memAbs s _)) rfl⟩⟩

/-! ### 16-bit loads (44_load.md R200 to R202) -/

theorem readShortSource_imm (s : State) (v : Word) : s.readShortSource (.imm v) = v := rfl

theorem readShortSource_pair (s : State) (p : Pair) :
    s.readShortSource (.of (.pair p)) = s.pair p := rfl

theorem copyShort_pair (p : Pair) (src : ShortSource) (s : State) :
    copyShort (.pair p) src s = .next (s.setPair p (s.readShortSource src)) := rfl

theorem copyShort_sp (src : ShortSource) (s : State) :
    copyShort .sp src s = .next (s.setSp (s.readShortSource src)) := rfl

theorem encode_ldPairImm (p : OpPair) (d16 : Word) :
    encode (Form.ldPairImm p d16).instr = encodeOpImm16 (0x01 + 16 * p.code) d16 := by
  cases p <;> rfl

/-- A form that copies a source that reads as `v` to `sp` loads `sp` with `v`. -/
theorem loadsSp_of_meaning {k : Form} {src : ShortSource} {v : Word} {s : State}
    (hread : s.readShortSource src = v) (hrun : k.meaning = copyShort .sp src) :
    LoadsSp k.instr s v := by
  have hcopy := copyShort_sp src s
  rw [hread] at hcopy
  exact ⟨_, (exec_of_meaning hrun s).trans hcopy, State.setSp_sp s v, setSp_onlySp s v⟩

/-- A pair set to joined bytes holds the first of them in its high register. -/
theorem reg_pairHi_setPair_joinBytes (s : State) (p : Pair) (hi lo : Byte) :
    (s.setPair p (joinBytes hi lo)).reg (pairHi p) = hi := by
  rw [reg_pairHi_setPair, hiByte_joinBytes]

theorem reg_pairLo_setPair_joinBytes (s : State) (p : Pair) (hi lo : Byte) :
    (s.setPair p (joinBytes hi lo)).reg (pairLo p) = lo := by
  rw [reg_pairLo_setPair, loByte_joinBytes]

/-- Settles O48: the immediate is encoded high byte first, and a pair write puts the high byte in the
high register. -/
theorem shortLoads : Obligations.ShortLoads :=
  ⟨fun p hi lo s =>
      ⟨decodesAs_of_encode_eq ((encode_ldPairImm p _).trans (encodeOpImm16_joinBytes _ hi lo)),
        _, (exec_of_meaning rfl s).trans (copyShort_pair p.pair (.imm (joinBytes hi lo)) s),
        reg_pairHi_setPair_joinBytes s p.pair hi lo, reg_pairLo_setPair_joinBytes s p.pair hi lo,
        setPair_onlyRegs s p.pair _⟩,
    fun hi lo s => ⟨decodesAs_of_encode_eq (encodeOpImm16_joinBytes 0x31 hi lo),
      loadsSp_of_meaning (readShortSource_imm s _) rfl⟩,
    fun s => ⟨decodesAs_of_encode_eq rfl,
      loadsSp_of_meaning (readShortSource_pair s .hl) rfl⟩⟩

end Sys2Proof.Proofs

namespace Sys2Proof.Proofs

open Sys2Proof.Machine Sys2Proof.Claims

/-! ### Push (45_stack.md R215) -/

theorem exec_push (p : Pair) (s : State) :
    exec (Form.push p).instr s = .next (s.push (s.pair p)) :=
  (exec_of_meaning rfl s).trans (pushPair_eq p s)

theorem hiByte_pair (s : State) (p : Pair) : hiByte (s.pair p) = s.reg (pairHi p) :=
  hiByte_joinBytes _ _

theorem loByte_pair (s : State) (p : Pair) : loByte (s.pair p) = s.reg (pairLo p) :=
  loByte_joinBytes _ _

/-- What a push of a pair stores, by the registers that are its halves. -/
theorem push_pair_pushedShort (s : State) (p : Pair) :
    PushedShort s (s.push (s.pair p)) (s.reg (pairHi p)) (s.reg (pairLo p)) := by
  rw [← hiByte_pair, ← loByte_pair]
  exact push_pushedShort s (s.pair p)

theorem push_regsKept (s : State) (v : Word) : RegsKept s (s.push v) [] :=
  fun q _ => State.reg_push s v q

theorem encode_push (p : Pair) : encode (Form.push p).instr = [0xC5 + 16 * p.stackCode] := by
  cases p <;> rfl

/-- Settles O49: all four forms run the one push, on the value of their pair. -/
theorem pushResult : Obligations.PushResult := fun p s =>
  ⟨decodesAs_of_encode_eq (encode_push p), _, exec_push p s,
    push_pair_pushedShort s p, push_regsKept s _, rfl, rfl, rfl⟩

/-! ### Pop (45_stack.md R216, R217) -/

/-- A pop moves `sp`, then writes the pair. -/
theorem popPair_eq_setPair_pop (p : Pair) (s : State) :
    popPair p s = .next (s.pop.2.setPair p s.pop.1) := rfl

theorem pop_regsKept (s : State) : RegsKept s s.pop.2 [] :=
  fun q _ => State.reg_setSp s (s.sp + 2) q

/-- A pop into a pair keeps the registers outside the pair. -/
theorem setPair_pop_regsKept (s : State) (p : Pair) :
    RegsKept s (s.pop.2.setPair p s.pop.1) [pairHi p, pairLo p] := by
  obtain ⟨hpair, -⟩ := setPair_onlyRegs s.pop.2 p s.pop.1
  exact fun q hq => (hpair q hq).trans (pop_regsKept s q List.not_mem_nil)

theorem popsInto_of_exec {i : Instr} {s : State} {p : Pair} (hexec : exec i s = popPair p s) :
    PopsInto i s p := by
  obtain ⟨-, hsp, hpc, hmem, hrest⟩ := setPair_onlyRegs s.pop.2 p s.pop.1
  exact ⟨_, hexec.trans (popPair_eq_setPair_pop p s), reg_pairHi_setPair_joinBytes _ p _ _,
    reg_pairLo_setPair_joinBytes _ p _ _, hsp, setPair_pop_regsKept s p, hpc, hmem, hrest⟩

theorem encode_pop (p : OpPair) : encode (Form.pop p).instr = [0xC1 + 16 * p.code] := by
  cases p <;> rfl

/-- Settles O50: all four forms run the one pop, whose pair write keeps the moved `sp` and memory. -/
theorem popResult : Obligations.PopResult :=
  ⟨fun p s => ⟨decodesAs_of_encode_eq (encode_pop p), popsInto_of_exec (exec_of_meaning rfl s)⟩,
    fun s => ⟨decodesAs_of_encode_eq rfl, popsInto_of_exec (exec_of_meaning rfl s)⟩⟩

/-! ### A pop after a push (95_test_vectors.md section 1.4) -/

theorem exec_popForm (q : Pair) (s : State) : exec (popForm q).instr s = popPair q s := by
  cases q <;> exact exec_of_meaning rfl s

/-- Settles O51: the pop reads the pushed short back, the two moves of `sp` cancel, and only the pop
writes registers. -/
theorem pushThenPopCopiesPair : Obligations.PushThenPopCopiesPair := by
  intro p q s
  refine ⟨_, _, exec_push p s, (exec_popForm q _).trans (popPair_eq_setPair_pop q _), ?pair, ?sp,
    fun r hr => ?regs⟩
  case pair => rw [State.pair_setPair_same, pop_push_fst]
  case sp => rw [State.setPair_sp, pop_push_sp]
  case regs =>
    have hpush := push_regsKept s (s.pair p) r List.not_mem_nil
    exact (setPair_pop_regsKept _ q r hr).trans hpush

end Sys2Proof.Proofs

namespace Sys2Proof.Proofs

open Sys2Proof.Machine Sys2Proof.Claims

/-! ### The CPU half of the block: updates that never meet the video timing machine
(50_video_timing.md R246) -/

/-- The state with another video timing machine in it. -/
def withVideo (s : State) (w : Video) : State := { s with video := w }

theorem withVideo_self (s : State) : withVideo s s.video = s := rfl

/-- An update of the CPU half: it keeps memory canonical, and does the same under any video state. -/
structure CpuUpdate (f : State → State) : Prop where
  keeps_wf : ∀ s, s.mem.wf → (f s).mem.wf
  blind : ∀ s w, f (withVideo s w) = withVideo (f s) w

/-- An update that does the same under any video state cannot have written it. -/
theorem CpuUpdate.video_eq {f : State → State} (hf : CpuUpdate f) (s : State) :
    (f s).video = s.video :=
  calc (f s).video
    _ = (withVideo (f s) s.video).video := by rw [← hf.blind, withVideo_self]
    _ = s.video := rfl

theorem CpuUpdate.comp {f g : State → State} (hg : CpuUpdate g) (hf : CpuUpdate f) :
    CpuUpdate fun s => g (f s) where
  keeps_wf s h := hg.keeps_wf _ (hf.keeps_wf s h)
  blind s w := by rw [hf.blind, hg.blind]

/-- An update of the CPU half that also answers a value, the same under any video state. -/
structure CpuAction {α : Type} (act : State → α × State) : Prop where
  keeps_wf : ∀ s, s.mem.wf → (act s).2.mem.wf
  blind : ∀ s w, act (withVideo s w) = ((act s).1, withVideo (act s).2 w)

theorem cpuAction_read {α : Type} {value : State → α}
    (hvalue : ∀ s w, value (withVideo s w) = value s) : CpuAction fun s => (value s, s) where
  keeps_wf _ h := h
  blind s w := by rw [hvalue]

theorem CpuAction.bind {α : Type} {act : State → α × State} {next : α → State → State}
    (hact : CpuAction act) (hnext : ∀ x, CpuUpdate (next x)) :
    CpuUpdate fun s => next (act s).1 (act s).2 where
  keeps_wf s h := (hnext _).keeps_wf _ (hact.keeps_wf s h)
  blind s w := by rw [hact.blind, (hnext _).blind]

/-! ### Reads and writes of operands -/

theorem readPlace_cpuAction (o : BytePlace) : CpuAction fun s => s.readPlace o := by
  cases o <;> exact ⟨fun _ h => h, fun _ _ => rfl⟩

theorem readSource_cpuAction (src : ByteSource) : CpuAction fun s => s.readSource src := by
  cases src with
  | imm v => exact cpuAction_read fun _ _ => rfl
  | of o => exact readPlace_cpuAction o

theorem setReg_cpuUpdate (r : ByteReg) (v : Byte) : CpuUpdate fun s => s.setReg r v := by
  cases r <;> exact ⟨fun _ h => h, fun _ _ => rfl⟩

theorem setPair_cpuUpdate (p : Pair) (v : Word) : CpuUpdate fun s => s.setPair p v :=
  (setReg_cpuUpdate (pairLo p) (loByte v)).comp (setReg_cpuUpdate (pairHi p) (hiByte v))

theorem setSp_cpuUpdate (v : Word) : CpuUpdate fun s => s.setSp v := ⟨fun _ h => h, fun _ _ => rfl⟩

theorem setPc_cpuUpdate (v : Word) : CpuUpdate fun s => s.setPc v := ⟨fun _ h => h, fun _ _ => rfl⟩

theorem raiseUnknown_cpuUpdate (table : OpTable) (byte : Byte) :
    CpuUpdate fun s => s.raiseUnknown table byte :=
  ⟨fun _ h => h, fun _ _ => rfl⟩

theorem assignPlace_cpuUpdate (o : BytePlace) (v : Byte) : CpuUpdate fun s => s.assignPlace o v where
  keeps_wf s h := State.assignPlace_wf s o v h
  blind s w := by
    cases o with
    | reg r => exact (setReg_cpuUpdate r v).blind s w
    | mem p | memInc | memDec | fastImm a | fastC | memAbs a => rfl

theorem assignShortPlace_cpuUpdate (o : ShortPlace) (v : Word) :
    CpuUpdate fun s => s.assignShortPlace o v := by
  cases o with
  | pair p => exact setPair_cpuUpdate p v
  | sp => exact setSp_cpuUpdate v

theorem readShortPlace_withVideo (s : State) (w : Video) (o : ShortPlace) :
    (withVideo s w).readShortPlace o = s.readShortPlace o := rfl

theorem readShortSource_withVideo (s : State) (w : Video) (src : ShortSource) :
    (withVideo s w).readShortSource src = s.readShortSource src := rfl

/-! ### The shared operations of the meanings

An operation function computes from its operands and F and writes F, so it is a `CpuAction` by
computation. -/

/-- A meaning that always completes, by an update of the CPU half. -/
def RunsCpuUpdate (op : State → Result) : Prop :=
  ∃ f : State → State, CpuUpdate f ∧ ∀ s, op s = .next (f s)

theorem RunsCpuUpdate.comp {op : State → Result} {f : State → State} (hop : RunsCpuUpdate op)
    (hf : CpuUpdate f) : RunsCpuUpdate fun s => op (f s) := by
  obtain ⟨g, hg, hrun⟩ := hop
  exact ⟨_, hg.comp hf, fun s => hrun (f s)⟩

theorem combineA_cpuUpdate {op : Byte → Byte → State → Byte × State}
    (hop : ∀ l r, CpuAction (op l r)) (src : ByteSource) : CpuUpdate (combineA op src) :=
  (readSource_cpuAction src).bind fun r =>
    (cpuAction_read (value := State.a) fun _ _ => rfl).bind fun l =>
      (hop l r).bind (setReg_cpuUpdate .a)

theorem addA_runsCpuUpdate (src : ByteSource) : RunsCpuUpdate (addA src) :=
  ⟨_, combineA_cpuUpdate (op := opAdd) (fun _ _ => ⟨fun _ h => h, fun _ _ => rfl⟩) src, fun _ => rfl⟩

theorem subA_runsCpuUpdate (src : ByteSource) : RunsCpuUpdate (subA src) :=
  ⟨_, combineA_cpuUpdate (op := opSub) (fun _ _ => ⟨fun _ h => h, fun _ _ => rfl⟩) src, fun _ => rfl⟩

theorem xorA_runsCpuUpdate (src : ByteSource) : RunsCpuUpdate (xorA src) :=
  ⟨_, combineA_cpuUpdate (op := opXor) (fun _ _ => ⟨fun _ h => h, fun _ _ => rfl⟩) src, fun _ => rfl⟩

theorem cpA_runsCpuUpdate (src : ByteSource) : RunsCpuUpdate (cpA src) := by
  have hcompare (r : Byte) : CpuUpdate fun s => opCp s.a r s := ⟨fun _ h => h, fun _ _ => rfl⟩
  exact ⟨_, (readSource_cpuAction src).bind hcompare, fun _ => rfl⟩

theorem bitTest_runsCpuUpdate (n : Fin 8) (src : ByteSource) : RunsCpuUpdate (bitTest n src) := by
  have htest (v : Byte) : CpuUpdate (opBit n v) := ⟨fun _ h => h, fun _ _ => rfl⟩
  exact ⟨_, (readSource_cpuAction src).bind htest, fun _ => rfl⟩

theorem modifyByte_cpuUpdate {op : Byte → State → Byte × State} (hop : ∀ v, CpuAction (op v))
    (place : BytePlace) : CpuUpdate (modifyByte op place) :=
  (readPlace_cpuAction place).bind fun v => (hop v).bind (assignPlace_cpuUpdate place)

theorem incByte_runsCpuUpdate (place : BytePlace) : RunsCpuUpdate (incByte place) :=
  ⟨_, modifyByte_cpuUpdate (op := opInc) (fun _ => ⟨fun _ h => h, fun _ _ => rfl⟩) place, fun _ => rfl⟩

theorem decByte_runsCpuUpdate (place : BytePlace) : RunsCpuUpdate (decByte place) :=
  ⟨_, modifyByte_cpuUpdate (op := opDec) (fun _ => ⟨fun _ h => h, fun _ _ => rfl⟩) place, fun _ => rfl⟩

theorem rotateCircular_runsCpuUpdate (m : ZMode) (place : BytePlace) :
    RunsCpuUpdate (rotateCircular m place) :=
  ⟨_, modifyByte_cpuUpdate (op := opRlc m) (fun _ => ⟨fun _ h => h, fun _ _ => rfl⟩) place,
    fun _ => rfl⟩

theorem rotateThroughCarry_runsCpuUpdate (m : ZMode) (place : BytePlace) :
    RunsCpuUpdate (rotateThroughCarry m place) :=
  ⟨_, modifyByte_cpuUpdate (op := opRl m) (fun _ => ⟨fun _ h => h, fun _ _ => rfl⟩) place,
    fun _ => rfl⟩

theorem incShort_runsCpuUpdate (place : ShortPlace) : RunsCpuUpdate (incShort place) :=
  ⟨_, (cpuAction_read fun s w => readShortPlace_withVideo s w place).bind fun v =>
    assignShortPlace_cpuUpdate place (v + 1), fun _ => rfl⟩

theorem decShort_runsCpuUpdate (place : ShortPlace) : RunsCpuUpdate (decShort place) :=
  ⟨_, (cpuAction_read fun s w => readShortPlace_withVideo s w place).bind fun v =>
    assignShortPlace_cpuUpdate place (v - 1), fun _ => rfl⟩

theorem copyByte_runsCpuUpdate (dst : BytePlace) (src : ByteSource) :
    RunsCpuUpdate (copyByte dst src) :=
  ⟨_, (readSource_cpuAction src).bind (assignPlace_cpuUpdate dst), copyByte_eq dst src⟩

theorem copyShort_runsCpuUpdate (dst : ShortPlace) (src : ShortSource) :
    RunsCpuUpdate (copyShort dst src) :=
  ⟨_, (cpuAction_read fun s w => readShortSource_withVideo s w src).bind
    (assignShortPlace_cpuUpdate dst), copyShort_eq dst src⟩

theorem pushPair_runsCpuUpdate (p : Pair) : RunsCpuUpdate (pushPair p) := by
  have hpush : CpuUpdate fun s => s.push (s.pair p) :=
    ⟨fun s h => State.push_wf s (s.pair p) h, fun _ _ => rfl⟩
  exact ⟨_, hpush, pushPair_eq p⟩

theorem pop_cpuAction : CpuAction State.pop := ⟨fun _ h => h, fun _ _ => rfl⟩

theorem popPair_runsCpuUpdate (p : Pair) : RunsCpuUpdate (popPair p) :=
  ⟨_, pop_cpuAction.bind (setPair_cpuUpdate p), popPair_eq_setPair_pop p⟩

/-- A choice between an update of the CPU half and no update is such an update, when the video state has
no part in the choice. -/
theorem ifTaken_cpuUpdate {taken : State → Bool} {f : State → State}
    (htaken : ∀ s w, taken (withVideo s w) = taken s) (hf : CpuUpdate f) :
    CpuUpdate fun s => if taken s then f s else s where
  keeps_wf s h := by
    split
    · exact hf.keeps_wf s h
    · exact h
  blind s w := by
    rw [htaken, hf.blind]
    split <;> rfl

section
variable {taken : State → Bool} (htaken : ∀ s w, taken (withVideo s w) = taken s)
include htaken

theorem jumpRelative_runsCpuUpdate (r8 : Byte) :
    RunsCpuUpdate fun s => jumpRelative (taken s) r8 s := by
  have hjump : CpuUpdate fun s => s.setPc (s.pc + sext16 r8) := ⟨fun _ h => h, fun _ _ => rfl⟩
  exact ⟨_, ifTaken_cpuUpdate htaken hjump, fun s => jumpRelative_eq (taken s) r8 s⟩

theorem callAbsolute_runsCpuUpdate (a16 : Word) :
    RunsCpuUpdate fun s => callAbsolute (taken s) a16 s := by
  have hcall : CpuUpdate fun s => (s.push s.pc).setPc a16 :=
    ⟨fun s h => State.push_wf s s.pc h, fun _ _ => rfl⟩
  exact ⟨_, ifTaken_cpuUpdate htaken hcall, fun s => callAbsolute_eq (taken s) a16 s⟩

theorem returnFrom_runsCpuUpdate : RunsCpuUpdate fun s => returnFrom (taken s) s := by
  have hreturn : CpuUpdate fun s => (s.setSp (s.sp + 2)).setPc (s.read16 s.sp) :=
    ⟨fun _ h => h, fun _ _ => rfl⟩
  exact ⟨_, ifTaken_cpuUpdate htaken hreturn, fun s => returnFrom_eq (taken s) s⟩

end

theorem cond_withVideo (cc : Cond) (s : State) (w : Video) :
    (withVideo s w).cond cc = s.cond cc := rfl

/-- Every form runs an update of the CPU half. -/
theorem meaning_runsCpuUpdate (k : Form) : RunsCpuUpdate k.meaning := by
  cases k with simp only [Form.meaning]
  | addReg r | addHl | addImm d8 => exact addA_runsCpuUpdate _
  | subReg r | subHl | subImm d8 => exact subA_runsCpuUpdate _
  | xorReg r | xorHl | xorImm d8 => exact xorA_runsCpuUpdate _
  | cpReg r | cpHl | cpImm d8 => exact cpA_runsCpuUpdate _
  | incReg r | incMem => exact incByte_runsCpuUpdate _
  | decReg r | decMem => exact decByte_runsCpuUpdate _
  | incPair p | incSp => exact incShort_runsCpuUpdate _
  | decPair p | decSp => exact decShort_runsCpuUpdate _
  | rlca | rlcReg r | rlcHl => exact rotateCircular_runsCpuUpdate _ _
  | rla | rlReg r | rlHl => exact rotateThroughCarry_runsCpuUpdate _ _
  | bitReg n r | bitHl n => exact bitTest_runsCpuUpdate n _
  | jr r8 => exact jumpRelative_runsCpuUpdate (fun _ _ => rfl) r8
  | jrCond cc r8 => exact jumpRelative_runsCpuUpdate (cond_withVideo cc) r8
  | call a16 => exact callAbsolute_runsCpuUpdate (fun _ _ => rfl) a16
  | callCond cc a16 => exact callAbsolute_runsCpuUpdate (cond_withVideo cc) a16
  | ret => exact returnFrom_runsCpuUpdate fun _ _ => rfl
  | retCond cc => exact returnFrom_runsCpuUpdate (cond_withVideo cc)
  | ldPairImm p d16 | ldSpImm d16 | ldSpHl => exact copyShort_runsCpuUpdate _ _
  | push p => exact pushPair_runsCpuUpdate p
  | pop p => exact popPair_runsCpuUpdate p.pair
  | popAf => exact popPair_runsCpuUpdate .af
  | ldReg dst src | ldRegHl dst | ldHlReg src | ldRegImm dst d8 | ldHlImm d8 | ldABc | ldADe | ldBcA
  | ldDeA | ldHlIncA | ldHlDecA | ldAHlInc | ldAHlDec | ldhStore a8 | ldhLoad a8 | ldFastCA | ldAFastC
  | ldAbsA a16 | ldAAbs a16 => exact copyByte_runsCpuUpdate _ _

theorem exec_runsCpuUpdate (i : Instr) : RunsCpuUpdate (exec i) := by
  rw [exec_eq_meaning]
  exact meaning_runsCpuUpdate i.form

/-! ### The step (30_encoding.md R81, 60_exceptions.md R260) -/

/-- A step at a byte the standard table does not assign raises the exception with `pc` past it. -/
theorem step_of_unassignedStandard {s : State} (hfault : s.fault = none)
    (hprefix : s.read8 s.pc ≠ kaoboy.prefixByte) (hrow : lookupStandard (s.read8 s.pc) = none) :
    step s = .next ((s.setPc (s.pc + 1)).raiseUnknown .standard (s.read8 s.pc)) := by
  rw [step_eq s hfault, fetchInstr_eq, if_neg hprefix, hrow]

/-- A step at a byte the extended table does not assign raises the exception with `pc` past both
bytes. -/
theorem step_of_unassignedExtended {s : State} (hfault : s.fault = none)
    (hprefix : s.read8 s.pc = kaoboy.prefixByte) (hrow : lookupExtended (s.read8 (s.pc + 1)) = none) :
    step s = .next ((s.setPc (s.pc + 2)).raiseUnknown .extended (s.read8 (s.pc + 1))) := by
  rw [step_eq s hfault, fetchInstr_eq, if_pos hprefix, hrow]

theorem execPast_runsCpuUpdate (i : Instr) (next : Word) :
    RunsCpuUpdate fun s => exec i (s.setPc next) :=
  (exec_runsCpuUpdate i).comp (setPc_cpuUpdate next)

theorem raisePast_cpuUpdate (table : OpTable) (byte : Byte) (next : Word) :
    CpuUpdate fun s => (s.setPc next).raiseUnknown table byte :=
  (raiseUnknown_cpuUpdate table byte).comp (setPc_cpuUpdate next)

/-- With the latch clear, a step is an update of the CPU half that the video state has no part in
choosing: one case per kind of row of the tables, and per byte without a row. -/
theorem step_runsCpuUpdate {s : State} (hfault : s.fault = none) :
    ∃ op, RunsCpuUpdate op ∧ ∀ w, step (withVideo s w) = op (withVideo s w) := by
  by_cases hprefix : s.read8 s.pc = kaoboy.prefixByte
  · cases hrow : lookupExtended (s.read8 (s.pc + 1)) with
    | some i =>
      exact ⟨_, execPast_runsCpuUpdate i (s.pc + 2), fun w =>
        step_of_extended (s := withVideo s w) hfault hprefix hrow⟩
    | none =>
      exact ⟨_, ⟨_, raisePast_cpuUpdate .extended (s.read8 (s.pc + 1)) (s.pc + 2), fun _ => rfl⟩, fun w =>
        step_of_unassignedExtended (s := withVideo s w) hfault hprefix hrow⟩
  · cases hrow : lookupStandard (s.read8 s.pc) with
    | some e =>
      cases e with
      | plain i =>
        exact ⟨_, execPast_runsCpuUpdate i (s.pc + 1), fun w =>
          step_of_plain (s := withVideo s w) hfault hprefix hrow⟩
      | imm8 k =>
        exact ⟨_, execPast_runsCpuUpdate (k (s.read8 (s.pc + 1))) (s.pc + 2), fun w =>
          step_of_imm8 (s := withVideo s w) hfault hprefix hrow⟩
      | imm16 k =>
        exact ⟨_, execPast_runsCpuUpdate (k (joinBytes (s.read8 (s.pc + 1)) (s.read8 (s.pc + 2)))) (s.pc + 3),
          fun w => step_of_imm16 (s := withVideo s w) hfault hprefix hrow⟩
    | none =>
      exact ⟨_, ⟨_, raisePast_cpuUpdate .standard (s.read8 s.pc) (s.pc + 1), fun _ => rfl⟩, fun w =>
        step_of_unassignedStandard (s := withVideo s w) hfault hprefix hrow⟩

theorem step_eq_cpuUpdate {s : State} (hfault : s.fault = none) :
    ∃ f, CpuUpdate f ∧ ∀ w, step (withVideo s w) = .next (f (withVideo s w)) := by
  obtain ⟨op, ⟨f, hf, hop⟩, hrun⟩ := step_runsCpuUpdate hfault
  exact ⟨f, hf, fun w => (hrun w).trans (hop _)⟩

theorem fault_eq_none_of_step_eq_next {s t : State} (hstep : step s = .next t) : s.fault = none := by
  obtain hfault | ⟨info, hfault⟩ := Option.eq_none_or_eq_some s.fault
  case inl => exact hfault
  case inr => rw [step_faulted s info hfault] at hstep; cases hstep

theorem inv_of_cpuUpdate {f : State → State} {s : State} (hf : CpuUpdate f) (hs : s.Inv) :
    (f s).Inv where
  mem_wf := hf.keeps_wf s hs.mem_wf
  video_inv := by
    rw [hf.video_eq]
    exact hs.video_inv

/-- Settles O12: a step is an update of the CPU half, which keeps memory canonical and the video timing
machine as it is. -/
theorem stepKeepsInvariant : Obligations.StepKeepsInvariant := by
  intro s t hs hstep
  obtain ⟨f, hf, hrun⟩ := step_eq_cpuUpdate (fault_eq_none_of_step_eq_next hstep)
  cases hstep.symm.trans (hrun s.video)
  exact inv_of_cpuUpdate hf hs

/-! ### Steps and Ticks (50_video_timing.md R246) -/

theorem tick_fst (n : Nat) (s : State) : (tick n s).1 = withVideo s (tickVideo n s.video).1 := rfl

/-- Settles O58: a step that completes is an update of the CPU half; one that does not has the latch set,
under any video state. -/
theorem stepAndTickAreIndependent : Obligations.StepAndTickAreIndependent := by
  refine ⟨tick_fst, fun s w => ?step⟩
  obtain hfault | ⟨info, hfault⟩ := Option.eq_none_or_eq_some s.fault
  case inr =>
    rw [step_faulted s info hfault]
    exact step_faulted (withVideo s w) info hfault
  case inl =>
    obtain ⟨f, hf, hrun⟩ := step_eq_cpuUpdate hfault
    have hnext : step s = .next (f s) := hrun s.video
    have hother : step (withVideo s w) = .next (withVideo (f s) w) := by rw [hrun w, hf.blind]
    rw [hnext]
    exact ⟨hf.video_eq s, hother⟩

end Sys2Proof.Proofs

namespace Sys2Proof.Proofs

open Sys2Proof.Machine Sys2Proof.Claims

/-! ### The exits of the modes (50_video_timing.md R234, R235, R237) -/

/-- A mode is entered with its full budget (R236). -/
theorem nextMode_eq (v : Video) :
    nextMode v =
      ({ (exitMode v).1 with remaining := budget (exitMode v).1.mode }, (exitMode v).2) := rfl

theorem nextMode_oamScan (r l : Nat) :
    nextMode { mode := .oamScan, remaining := r, line := l } =
      ({ mode := .pixelTransfer, remaining := 170, line := l }, []) := rfl

theorem nextMode_pixelTransfer (r l : Nat) :
    nextMode { mode := .pixelTransfer, remaining := r, line := l } =
      ({ mode := .hBlank, remaining := 206, line := l }, [.scanline l]) := rfl

theorem nextMode_hBlank (r l : Nat) :
    nextMode { mode := .hBlank, remaining := r, line := l } =
      if l + 1 = 144 then ({ mode := .vBlank, remaining := 456, line := l + 1 }, [.frame])
      else ({ mode := .oamScan, remaining := 80, line := l + 1 }, []) := by
  have hexit : exitMode { mode := .hBlank, remaining := r, line := l } =
      if l + 1 = 144 then ({ mode := .vBlank, remaining := r, line := l + 1 }, [.frame])
      else ({ mode := .oamScan, remaining := r, line := l + 1 }, []) := rfl
  rw [nextMode_eq, hexit]
  split <;> rfl

theorem nextMode_vBlank (r l : Nat) :
    nextMode { mode := .vBlank, remaining := r, line := l } =
      if l + 1 = 154 then ({ mode := .oamScan, remaining := 80, line := 0 }, [])
      else ({ mode := .vBlank, remaining := 456, line := l + 1 }, []) := by
  have hexit : exitMode { mode := .vBlank, remaining := r, line := l } =
      if l + 1 = 154 then ({ mode := .oamScan, remaining := r, line := 0 }, [])
      else ({ mode := .vBlank, remaining := r, line := l + 1 }, []) := rfl
  rw [nextMode_eq, hexit]
  split <;> rfl

/-- Settles O52: the exit of each mode, HBlank and VBlank by whether the line counted is the last of
their kind. -/
theorem modeExits : Obligations.ModeExits := fun r l =>
  ⟨nextMode_oamScan r l, nextMode_pixelTransfer r l, nextMode_hBlank r l, nextMode_vBlank r l⟩

/-- An exit does not look at what is left of the budget. -/
theorem nextMode_set_remaining (v : Video) (r : Nat) : nextMode { v with remaining := r } = nextMode v := by
  obtain ⟨mode, rest, line⟩ := v
  cases mode with
  | oamScan | pixelTransfer => rfl
  | hBlank => rw [nextMode_hBlank, nextMode_hBlank]
  | vBlank => rw [nextMode_vBlank, nextMode_vBlank]

theorem nextMode_remaining_pos (v : Video) : 1 ≤ (nextMode v).1.remaining := by
  have hbudget (mode : VideoMode) : 1 ≤ budget mode := by cases mode <;> decide
  rw [nextMode_eq]
  exact hbudget _

/-! ### Tick is the loop of the spec (50_video_timing.md R236) -/

theorem tickLoop_of_lt {n : Nat} {v : Video} (fuel : Nat) (h : n < v.remaining) :
    tickLoop fuel n v = ({ v with remaining := v.remaining - n }, []) := by
  cases fuel with
  | zero => rfl
  | succ fuel => rw [tickLoop, if_pos h]

theorem tickLoop_succ_of_le {n : Nat} {v : Video} (fuel : Nat) (h : v.remaining ≤ n) :
    tickLoop (fuel + 1) n v =
      ((tickLoop fuel (n - v.remaining) (nextMode v).1).1,
        (nextMode v).2 ++ (tickLoop fuel (n - v.remaining) (nextMode v).1).2) := by
  rw [tickLoop, if_neg (Nat.not_lt.mpr h)]

/-- From a state with cycles left, any fuel from `n` on gives the same run: each pass takes a cycle at
least (R238). -/
theorem tickLoop_fuel_irrelevant {fuel fuel' n : Nat} {v : Video} (hpos : 1 ≤ v.remaining)
    (hfuel : n ≤ fuel) (hfuel' : n ≤ fuel') : tickLoop fuel n v = tickLoop fuel' n v := by
  induction fuel generalizing fuel' n v with
  | zero =>
    have hlt : n < v.remaining := by omega
    rw [tickLoop_of_lt _ hlt, tickLoop_of_lt _ hlt]
  | succ fuel ih =>
    by_cases hlt : n < v.remaining
    · rw [tickLoop_of_lt _ hlt, tickLoop_of_lt _ hlt]
    · obtain ⟨fuel', rfl⟩ := Nat.exists_eq_succ_of_ne_zero (show fuel' ≠ 0 by omega)
      have hrest := ih (fuel' := fuel') (n := n - v.remaining) (nextMode_remaining_pos v)
        (by omega) (by omega)
      rw [tickLoop_succ_of_le _ (by omega), tickLoop_succ_of_le _ (by omega), hrest]

theorem tickVideo_of_lt {n : Nat} {v : Video} (h : n < v.remaining) :
    tickVideo n v = ({ v with remaining := v.remaining - n }, []) :=
  tickLoop_of_lt (n + 1) h

theorem tickVideo_of_le {n : Nat} {v : Video} (h : v.remaining ≤ n) :
    tickVideo n v =
      ((tickVideo (n - v.remaining) (nextMode v).1).1,
        (nextMode v).2 ++ (tickVideo (n - v.remaining) (nextMode v).1).2) := by
  have hfuel : tickLoop n (n - v.remaining) (nextMode v).1 =
      tickVideo (n - v.remaining) (nextMode v).1 :=
    tickLoop_fuel_irrelevant (nextMode_remaining_pos v) (Nat.sub_le n v.remaining)
      (Nat.le_succ (n - v.remaining))
  rw [tickVideo, tickLoop_succ_of_le n h, hfuel]

/-- Settles O53: one pass of the loop costs one unit of fuel, and the fuel left is enough for the cycles
left. -/
theorem tickIsTheLoop : Obligations.TickIsTheLoop := by
  intro n v
  by_cases h : v.remaining ≤ n
  · rw [if_pos h]
    exact tickVideo_of_le h
  · rw [if_neg h]
    exact tickVideo_of_lt (Nat.not_le.mp h)

/-- Induction along the passes of the loop. Only a first pass, from `remaining = 0`, takes no cycle. -/
theorem tickVideo_induction {motive : Nat → Video → Prop}
    (stay : ∀ n v, n < v.remaining → motive n v)
    (pass : ∀ n v, v.remaining ≤ n → motive (n - v.remaining) (nextMode v).1 → motive n v)
    (n : Nat) (v : Video) : motive n v := by
  have hpos (n : Nat) : ∀ v : Video, 1 ≤ v.remaining → motive n v := by
    induction n using Nat.strongRecOn with
    | ind n ih =>
      intro v hv
      by_cases h : v.remaining ≤ n
      · exact pass n v h (ih _ (by omega) _ (nextMode_remaining_pos v))
      · exact stay n v (Nat.not_le.mp h)
  by_cases h : v.remaining ≤ n
  · exact pass n v h (hpos _ _ (nextMode_remaining_pos v))
  · exact stay n v (Nat.not_le.mp h)

/-! ### Ticks compose (50_video_timing.md R238) -/

/-- A Tick of a part of what is left may be joined to the Tick after it. -/
theorem tickVideo_add_of_lt {a : Nat} {v : Video} (h : a < v.remaining) (b : Nat) :
    tickVideo (a + b) v = tickVideo b { v with remaining := v.remaining - a } := by
  by_cases hlt : a + b < v.remaining
  · have hrest : b < v.remaining - a := by omega
    rw [tickVideo_of_lt hlt, Nat.sub_add_eq]
    exact (tickVideo_of_lt (v := { v with remaining := v.remaining - a }) hrest).symm
  · have hrest : v.remaining - a ≤ b := by omega
    have hleft : a + b - v.remaining = b - (v.remaining - a) := by omega
    have hpass := tickVideo_of_le (v := { v with remaining := v.remaining - a }) hrest
    rw [nextMode_set_remaining v] at hpass
    rw [tickVideo_of_le (Nat.not_lt.mp hlt), hleft, hpass]

theorem tickVideo_add (a b : Nat) (v : Video) :
    tickVideo (a + b) v =
      ((tickVideo b (tickVideo a v).1).1, (tickVideo a v).2 ++ (tickVideo b (tickVideo a v).1).2) := by
  induction a, v using tickVideo_induction with
  | stay a v h => rw [tickVideo_add_of_lt h, tickVideo_of_lt h, List.nil_append]
  | pass a v h ih =>
    have hleft : a + b - v.remaining = a - v.remaining + b := by omega
    rw [tickVideo_of_le (Nat.le_add_right_of_le h), hleft, ih, tickVideo_of_le h, List.append_assoc]

/-- Settles O54: by induction along the passes of the first Tick. -/
theorem ticksCompose : Obligations.TicksCompose := by
  intro a b v
  rw [tickVideo_add]
  exact ⟨rfl, rfl⟩

/-! ### The closed form of the video state (50_video_timing.md R242) -/

/-- The cycle of its line at which a mode ends. -/
def modeEnd : VideoMode → Nat
  | .oamScan => 80
  | .pixelTransfer => 250
  | .hBlank => 456
  | .vBlank => 456

/-- `v` meets the invariants and stands where `t` cycles after Reset lead: in the line that `t` gives,
with as much of its mode left as the place in the line gives. -/
structure StandsAt (t : Nat) (v : Video) : Prop where
  inv : v.Inv
  line_eq : v.line = t / 456 % 154
  place_eq : t % 456 + v.remaining = modeEnd v.mode

theorem modeEnd_le (mode : VideoMode) : modeEnd mode ≤ 456 := by cases mode <;> decide

theorem budget_le_modeEnd (mode : VideoMode) : budget mode ≤ modeEnd mode := by cases mode <;> decide

/-- A Tick that ends inside the mode. -/
theorem StandsAt.stay {t n : Nat} {v : Video} (h : StandsAt t v) (hn : n < v.remaining) :
    StandsAt (t + n) { v with remaining := v.remaining - n } := by
  obtain ⟨⟨hpos, hle, hline, hblank⟩, hline_eq, hplace⟩ := h
  have hend := modeEnd_le v.mode
  refine ⟨⟨?_, ?_, hline, hblank⟩, ?_, ?_⟩
  · show 1 ≤ v.remaining - n
    omega
  · exact (Nat.sub_le _ _).trans hle
  · show v.line = _
    omega
  · show (t + n) % 456 + (v.remaining - n) = modeEnd v.mode
    omega

/-- A video state that meets the invariants is one that some number of cycles after Reset lead to. -/
theorem exists_standsAt_of_inv {v : Video} (h : v.Inv) : ∃ t, StandsAt t v := by
  obtain ⟨hpos, hle, hline, hblank⟩ := h
  have hline' : v.line < 154 := hline
  have hfits := hle.trans (budget_le_modeEnd v.mode)
  have hend := modeEnd_le v.mode
  exact ⟨v.line * 456 + (modeEnd v.mode - v.remaining), ⟨hpos, hle, hline, hblank⟩,
    by omega, by omega⟩

section
variable {t r l : Nat}

theorem standsAt_iff {mode : VideoMode} :
    StandsAt t { mode := mode, remaining := r, line := l } ↔
      (1 ≤ r ∧ r ≤ budget mode ∧ l < 154 ∧ (mode = .vBlank ↔ 144 ≤ l)) ∧
        l = t / 456 % 154 ∧ t % 456 + r = modeEnd mode :=
  ⟨fun ⟨⟨hpos, hle, hline, hblank⟩, hline_eq, hplace⟩ =>
      ⟨⟨hpos, hle, hline, hblank⟩, hline_eq, hplace⟩,
    fun ⟨⟨hpos, hle, hline, hblank⟩, hline_eq, hplace⟩ =>
      ⟨⟨hpos, hle, hline, hblank⟩, hline_eq, hplace⟩⟩

theorem standsAt_oamScan :
    StandsAt t { mode := .oamScan, remaining := r, line := l } ↔
      l < 144 ∧ l = t / 456 % 154 ∧ 1 ≤ r ∧ r ≤ 80 ∧ t % 456 + r = 80 := by
  simp only [standsAt_iff, budget, modeEnd, kaoboy, reduceCtorEq, false_iff]
  omega

theorem standsAt_pixelTransfer :
    StandsAt t { mode := .pixelTransfer, remaining := r, line := l } ↔
      l < 144 ∧ l = t / 456 % 154 ∧ 1 ≤ r ∧ r ≤ 170 ∧ t % 456 + r = 250 := by
  simp only [standsAt_iff, budget, modeEnd, kaoboy, reduceCtorEq, false_iff]
  omega

theorem standsAt_hBlank :
    StandsAt t { mode := .hBlank, remaining := r, line := l } ↔
      l < 144 ∧ l = t / 456 % 154 ∧ 1 ≤ r ∧ r ≤ 206 ∧ t % 456 + r = 456 := by
  simp only [standsAt_iff, budget, modeEnd, kaoboy, reduceCtorEq, false_iff]
  omega

theorem standsAt_vBlank :
    StandsAt t { mode := .vBlank, remaining := r, line := l } ↔
      144 ≤ l ∧ l = t / 456 % 154 ∧ 1 ≤ r ∧ r ≤ 456 ∧ t % 456 + r = 456 := by
  simp only [standsAt_iff, budget, modeEnd, kaoboy, true_iff]
  omega

end

/-- A Tick to the end of the mode leads to the start of the next mode. -/
theorem StandsAt.exit {t : Nat} {v : Video} (h : StandsAt t v) :
    StandsAt (t + v.remaining) (nextMode v).1 := by
  obtain ⟨mode, r, l⟩ := v
  show StandsAt (t + r) (nextMode ⟨mode, r, l⟩).1
  cases mode with
  | oamScan =>
    rw [standsAt_oamScan] at h
    rw [nextMode_oamScan, standsAt_pixelTransfer]
    omega
  | pixelTransfer =>
    rw [standsAt_pixelTransfer] at h
    rw [nextMode_pixelTransfer, standsAt_hBlank]
    omega
  | hBlank =>
    rw [standsAt_hBlank] at h
    rw [nextMode_hBlank]
    split
    · rw [standsAt_vBlank]
      omega
    · rw [standsAt_oamScan]
      omega
  | vBlank =>
    rw [standsAt_vBlank] at h
    rw [nextMode_vBlank]
    split
    · rw [standsAt_oamScan]
      omega
    · rw [standsAt_vBlank]
      omega

/-- `n` more cycles lead `n` cycles further: by induction along the passes of the loop. -/
theorem standsAt_tickVideo (n : Nat) (v : Video) :
    ∀ t, StandsAt t v → StandsAt (t + n) (tickVideo n v).1 := by
  induction n, v using tickVideo_induction with
  | stay n v hn =>
    intro t h
    rw [tickVideo_of_lt hn]
    exact h.stay hn
  | pass n v hn ih =>
    intro t h
    have hrest := ih _ h.exit
    rw [Nat.add_assoc, Nat.add_sub_cancel' hn] at hrest
    rw [tickVideo_of_le hn]
    exact hrest

/-- The place after Reset determines the state. -/
theorem StandsAt.eq_videoAt {t : Nat} {v : Video} (h : StandsAt t v) : v = videoAt t := by
  obtain ⟨mode, r, l⟩ := v
  cases mode with
  | oamScan =>
    obtain ⟨hline, rfl, hpos, hle, hplace⟩ := standsAt_oamScan.mp h
    have hc : t % 456 < 80 := by omega
    have hr : r = 80 - t % 456 := by omega
    simp only [videoAt, if_pos hline, if_pos hc, hr]
  | pixelTransfer =>
    obtain ⟨hline, rfl, hpos, hle, hplace⟩ := standsAt_pixelTransfer.mp h
    have hstart : ¬ t % 456 < 80 := by omega
    have hc : t % 456 < 250 := by omega
    have hr : r = 250 - t % 456 := by omega
    simp only [videoAt, if_pos hline, if_neg hstart, if_pos hc, hr]
  | hBlank =>
    obtain ⟨hline, rfl, hpos, hle, hplace⟩ := standsAt_hBlank.mp h
    have hscan : ¬ t % 456 < 80 := by omega
    have hstart : ¬ t % 456 < 250 := by omega
    have hr : r = 456 - t % 456 := by omega
    simp only [videoAt, if_pos hline, if_neg hscan, if_neg hstart, hr]
  | vBlank =>
    obtain ⟨hstart, rfl, -, -, hplace⟩ := standsAt_vBlank.mp h
    have hr : r = 456 - t % 456 := by omega
    simp only [videoAt, if_neg (Nat.not_lt.mpr hstart), hr]

theorem standsAt_reset : StandsAt 0 Video.reset := ⟨video_reset_inv, rfl, rfl⟩

theorem standsAt_foldl_tickVideo (counts : List Nat) :
    ∀ t v, StandsAt t v →
      StandsAt (t + counts.sum) (counts.foldl (fun v n => (tickVideo n v).1) v) := by
  induction counts with
  | nil => exact fun _ _ h => h
  | cons n counts ih =>
    intro t v h
    rw [List.sum_cons, ← Nat.add_assoc]
    exact ih _ _ (standsAt_tickVideo n v t h)

/-- Settles O55: each Tick moves the place by its count, and the place determines the state. -/
theorem videoFollowsTotalCycles : Obligations.VideoFollowsTotalCycles := by
  intro counts
  have hend := standsAt_foldl_tickVideo counts 0 Video.reset standsAt_reset
  rw [Nat.zero_add] at hend
  exact hend.eq_videoAt

theorem videoAt_add_frame (t : Nat) : videoAt (t + 70224) = videoAt t := by
  have hline : (t + 70224) / 456 % 154 = t / 456 % 154 := by omega
  have hplace : (t + 70224) % 456 = t % 456 := by omega
  simp only [videoAt, hline, hplace]

/-- Settles O56: a state that meets the invariants is one that some number of cycles after Reset leads
to, and 70224 cycles are 154 lines of 456. -/
theorem framePeriod : Obligations.FramePeriod := by
  intro v hv
  obtain ⟨t, ht⟩ := exists_standsAt_of_inv hv
  calc (tickVideo 70224 v).1
    _ = videoAt (t + 70224) := (standsAt_tickVideo 70224 v t ht).eq_videoAt
    _ = videoAt t := videoAt_add_frame t
    _ = v := ht.eq_videoAt.symm

/-! ### The invariant along the transactions (50_video_timing.md R240, R241) -/

theorem tickVideo_inv (n : Nat) {v : Video} (h : v.Inv) : (tickVideo n v).1.Inv := by
  obtain ⟨t, ht⟩ := exists_standsAt_of_inv h
  exact (standsAt_tickVideo n v t ht).inv

theorem tick_inv (n : Nat) {s : State} (h : s.Inv) : (tick n s).1.Inv where
  mem_wf := h.mem_wf
  video_inv := tickVideo_inv n h.video_inv

theorem bootstrap_inv (image : List Byte) {s : State} (h : s.Inv) : (bootstrap image s).Inv where
  mem_wf := State.bootstrap_wf image s h.mem_wf
  video_inv := h.video_inv

theorem hostWrite_inv (w : HostWrite) {s : State} (h : s.Inv) : (hostWrite w s).Inv where
  mem_wf := State.hostWrite_wf w s h.mem_wf
  video_inv := by
    cases w with
    | reg r v => rw [hostWrite, State.setReg_video]; exact h.video_inv
    | sp v | pc v | mem a v => exact h.video_inv

section
variable {k k' : Block} {events : List RenderEvent}

/-- A Bootstrap that is not refused copies its image (70_reset_and_hazards.md R293). -/
theorem core_of_transact_bootstrap {image : List Byte}
    (h : transact (.bootstrap image) k = .next (k', events)) : k'.core = bootstrap image k.core := by
  simp only [transact] at h
  split at h
  case isTrue => cases h
  case isFalse =>
    split at h
    case isTrue => cases h; rfl
    case isFalse => cases h

/-- A Step transaction that completes is a step of the CPU (30_encoding.md R81). -/
theorem step_of_transact_step (h : transact .step k = .next (k', events)) :
    step k.core = .next k'.core := by
  simp only [transact] at h
  split at h
  case h_1 t hstep => cases h; exact hstep
  case h_2 | h_3 => cases h

end

/-- Settles O13: each transaction keeps the invariant, or starts again from Reset, which meets it. -/
theorem transactionsKeepInvariant : Obligations.TransactionsKeepInvariant := by
  intro x k k' events hk hx
  cases x with
  | reset =>
    cases hx
    exact resetMeetsInvariant.1
  | bootstrap image =>
    rw [core_of_transact_bootstrap hx]
    exact bootstrap_inv image hk
  | step => exact stepKeepsInvariant _ _ hk (step_of_transact_step hx)
  | tick n =>
    cases hx
    exact tick_inv n hk
  | write w =>
    cases hx
    exact hostWrite_inv w hk

/-! ### The events of the first frame (50_video_timing.md R244) -/

/-- A Tick past the end of the mode: the exit, then a Tick of the cycles left. -/
theorem tickVideo_pass {v w u : Video} {events more : List RenderEvent} {total n : Nat}
    (hexit : nextMode v = (w, events)) (hrest : tickVideo n w = (u, more))
    (htotal : v.remaining + n = total) : tickVideo total v = (u, events ++ more) := by
  rw [← htotal, tickVideo_of_le (Nat.le_add_right v.remaining n), Nat.add_sub_cancel_left, hexit,
    hrest]

/-- A visible line but the last emits its scanline and leads to the line after it. -/
theorem tickVideo_visibleLine {l : Nat} (hl : l + 1 ≠ 144) :
    tickVideo 456 { mode := .oamScan, remaining := 80, line := l } =
      ({ mode := .oamScan, remaining := 80, line := l + 1 }, [.scanline l]) := by
  have hexit : nextMode { mode := .hBlank, remaining := 206, line := l } =
      ({ mode := .oamScan, remaining := 80, line := l + 1 }, []) :=
    (nextMode_hBlank 206 l).trans (if_neg hl)
  have hblank := tickVideo_pass (n := 0) (total := 206) hexit rfl rfl
  have htransfer := tickVideo_pass (total := 376) (nextMode_pixelTransfer 170 l) hblank rfl
  exact tickVideo_pass (nextMode_oamScan 80 l) htransfer rfl

/-- The first `k` lines from Reset. -/
theorem tickVideo_visibleLines {k : Nat} (hk : k ≤ 143) :
    tickVideo (456 * k) Video.reset =
      ({ mode := .oamScan, remaining := 80, line := k }, (List.range k).map RenderEvent.scanline) := by
  induction k with
  | zero => rfl
  | succ k ih =>
    have hl : k + 1 ≠ 144 := by omega
    rw [Nat.mul_succ, tickVideo_add, ih (Nat.le_of_succ_le hk), tickVideo_visibleLine hl,
      List.range_succ, List.map_append]
    rfl

/-- The last visible line and the ten lines of VBlank. -/
theorem tickVideo_lastLines :
    (tickVideo 5016 { mode := .oamScan, remaining := 80, line := 143 }).2 =
      [.scanline 143, .frame] := by
  decide

/-- Settles O57: 143 lines that each emit their scanline, then the last visible line and VBlank. -/
theorem frameEvents : Obligations.FrameEvents := by
  have hrun := tickVideo_add (456 * 143) 5016 Video.reset
  rw [tickVideo_visibleLines (Nat.le_refl 143), tickVideo_lastLines] at hrun
  have hlines : (List.range 144).map RenderEvent.scanline =
      (List.range 143).map RenderEvent.scanline ++ [.scanline 143] := by
    rw [List.range_succ, List.map_append]
    rfl
  rw [Obligations.FrameEvents, hlines, List.append_assoc]
  exact congrArg Prod.snd hrun

end Sys2Proof.Proofs

namespace Sys2Proof.Proofs

open Sys2Proof.Machine Sys2Proof.Claims

/-! ### The fault latch under the operations of the meanings (60_exceptions.md R262) -/

theorem readPlace_fault (s : State) (o : BytePlace) : (s.readPlace o).2.fault = s.fault := by
  cases o <;> rfl

theorem readSource_fault (s : State) (src : ByteSource) : (s.readSource src).2.fault = s.fault := by
  cases src with
  | imm v => rfl
  | of o => exact readPlace_fault s o

theorem assignPlace_fault (s : State) (o : BytePlace) (v : Byte) :
    (s.assignPlace o v).fault = s.fault := by
  cases o with
  | reg r => exact State.setReg_fault s r v
  | mem p | memInc | memDec | fastImm a | fastC | memAbs a => rfl

theorem assignShortPlace_fault (s : State) (o : ShortPlace) (v : Word) :
    (s.assignShortPlace o v).fault = s.fault := by
  cases o with
  | pair p => exact State.setPair_fault s p v
  | sp => rfl

theorem combineA_fault {op : Byte → Byte → State → Byte × State}
    (hop : ∀ l r s, (op l r s).2.fault = s.fault) (src : ByteSource) (s : State) :
    (combineA op src s).fault = s.fault := by
  simp only [combineA, State.setReg_fault, hop, readSource_fault]

theorem modifyByte_fault {op : Byte → State → Byte × State}
    (hop : ∀ v s, (op v s).2.fault = s.fault) (place : BytePlace) (s : State) :
    (modifyByte op place s).fault = s.fault := by
  simp only [modifyByte, assignPlace_fault, hop, readPlace_fault]

/-- A conditional branch leaves the latch alone when the branch it may take does. -/
theorem ifTaken_fault (taken : Bool) {s t : State} (h : t.fault = s.fault) :
    (if taken then t else s).fault = s.fault := by
  split
  · exact h
  · rfl

/-- Whenever the operation completes, the latch is as before. That it completes is `RunsCpuUpdate`. -/
def KeepsLatch (op : State → Result) : Prop := ∀ s t, op s = .next t → t.fault = s.fault

theorem keepsLatch_of_eq_next {op : State → Result} {f : State → State}
    (hop : ∀ s, op s = .next (f s)) (hf : ∀ s, (f s).fault = s.fault) : KeepsLatch op := by
  intro s t ht
  cases (hop s).symm.trans ht
  exact hf s

theorem combineA_keepsLatch {op : Byte → Byte → State → Byte × State}
    (hop : ∀ l r s, (op l r s).2.fault = s.fault) (src : ByteSource) :
    KeepsLatch fun s => .next (combineA op src s) :=
  keepsLatch_of_eq_next (fun _ => rfl) (combineA_fault hop src)

theorem cpA_keepsLatch (src : ByteSource) : KeepsLatch (cpA src) :=
  keepsLatch_of_eq_next (fun _ => rfl) fun s => readSource_fault s src

theorem bitTest_keepsLatch (n : Fin 8) (src : ByteSource) : KeepsLatch (bitTest n src) :=
  keepsLatch_of_eq_next (fun _ => rfl) fun s => readSource_fault s src

theorem modifyByte_keepsLatch {op : Byte → State → Byte × State}
    (hop : ∀ v s, (op v s).2.fault = s.fault) (place : BytePlace) :
    KeepsLatch fun s => .next (modifyByte op place s) :=
  keepsLatch_of_eq_next (fun _ => rfl) (modifyByte_fault hop place)

theorem copyByte_keepsLatch (dst : BytePlace) (src : ByteSource) : KeepsLatch (copyByte dst src) :=
  keepsLatch_of_eq_next (copyByte_eq dst src) fun s =>
    (assignPlace_fault _ dst _).trans (readSource_fault s src)

theorem assignShortPlace_keepsLatch (dst : ShortPlace) (value : State → Word) :
    KeepsLatch fun s => .next (s.assignShortPlace dst (value s)) :=
  keepsLatch_of_eq_next (fun _ => rfl) fun s => assignShortPlace_fault s dst (value s)

theorem pushPair_keepsLatch (p : Pair) : KeepsLatch (pushPair p) :=
  keepsLatch_of_eq_next (pushPair_eq p) fun s => State.push_fault s (s.pair p)

theorem popPair_keepsLatch (p : Pair) : KeepsLatch (popPair p) :=
  keepsLatch_of_eq_next (popPair_eq p) fun _ => State.setPair_fault _ p _

section
variable (taken : State → Bool)

theorem jumpRelative_keepsLatch (r8 : Byte) : KeepsLatch fun s => jumpRelative (taken s) r8 s :=
  keepsLatch_of_eq_next (fun s => jumpRelative_eq (taken s) r8 s) fun s => ifTaken_fault (taken s) rfl

theorem callAbsolute_keepsLatch (a16 : Word) : KeepsLatch fun s => callAbsolute (taken s) a16 s :=
  keepsLatch_of_eq_next (fun s => callAbsolute_eq (taken s) a16 s) fun s => ifTaken_fault (taken s) rfl

theorem returnFrom_keepsLatch : KeepsLatch fun s => returnFrom (taken s) s :=
  keepsLatch_of_eq_next (fun s => returnFrom_eq (taken s) s) fun s => ifTaken_fault (taken s) rfl

end

/-- No form sets or clears the latch. -/
theorem meaning_keepsLatch (k : Form) : KeepsLatch k.meaning := by
  cases k with simp only [Form.meaning]
  | addReg r | addHl | addImm d8 | subReg r | subHl | subImm d8 | xorReg r | xorHl | xorImm d8 =>
    exact combineA_keepsLatch (fun _ _ _ => rfl) _
  | cpReg r | cpHl | cpImm d8 => exact cpA_keepsLatch _
  | bitReg n r | bitHl n => exact bitTest_keepsLatch n _
  | incReg r | incMem | decReg r | decMem | rlca | rlcReg r | rlcHl | rla | rlReg r | rlHl =>
    exact modifyByte_keepsLatch (fun _ _ => rfl) _
  | incPair p | incSp | decPair p | decSp | ldPairImm p d16 | ldSpImm d16 | ldSpHl =>
    exact assignShortPlace_keepsLatch _ _
  | jr r8 => exact jumpRelative_keepsLatch (fun _ => true) r8
  | jrCond cc r8 => exact jumpRelative_keepsLatch (State.cond · cc) r8
  | call a16 => exact callAbsolute_keepsLatch (fun _ => true) a16
  | callCond cc a16 => exact callAbsolute_keepsLatch (State.cond · cc) a16
  | ret => exact returnFrom_keepsLatch fun _ => true
  | retCond cc => exact returnFrom_keepsLatch (State.cond · cc)
  | push p => exact pushPair_keepsLatch p
  | pop p => exact popPair_keepsLatch p.pair
  | popAf => exact popPair_keepsLatch .af
  | ldReg dst src | ldRegHl dst | ldHlReg src | ldRegImm dst d8 | ldHlImm d8 | ldABc | ldADe | ldBcA
  | ldDeA | ldHlIncA | ldHlDecA | ldAHlInc | ldAHlDec | ldhStore a8 | ldhLoad a8 | ldFastCA | ldAFastC
  | ldAbsA a16 | ldAAbs a16 => exact copyByte_keepsLatch _ _

theorem exec_keepsLatch (i : Instr) : KeepsLatch (exec i) := by
  rw [exec_eq_meaning]
  exact meaning_keepsLatch i.form

/-- Settles O9: every instruction runs an update of the CPU half, which keeps the video timing machine,
and keeps the latch. -/
theorem everyInstructionCompletes : Obligations.EveryInstructionCompletes := by
  intro i s
  obtain ⟨f, hf, hexec⟩ := exec_runsCpuUpdate i
  exact ⟨f s, hexec s, exec_keepsLatch i s (f s) (hexec s), hf.video_eq s⟩

/-! ### What raises the exception (60_exceptions.md R260, R266) -/

theorem ne_prefixByte_of_mem_unassignedStandard {b : Byte} (h : b ∈ unassignedStandard) :
    b ≠ kaoboy.prefixByte :=
  ne_of_mem_of_not_mem h (by decide)

/-- Settles O6: an unassigned byte has no row in its table, and an unassigned standard byte is not the
0xCB. -/
theorem unassignedByteRaises : Obligations.UnassignedByteRaises := by
  refine fun s hfault => ⟨fun hbyte => ?standard, fun hprefix hbyte => ?extended⟩
  case standard =>
    exact step_of_unassignedStandard hfault (ne_prefixByte_of_mem_unassignedStandard hbyte)
      ((lookupStandard_eq_none_iff _).mpr (.inl hbyte))
  case extended =>
    exact step_of_unassignedExtended hfault hprefix ((lookupExtended_eq_none_iff _).mpr hbyte)

/-- An unassigned byte stands where the fetch reads its opcode. -/
def UnassignedAtPc (s : State) : Prop :=
  s.read8 s.pc ∈ unassignedStandard ∨
    s.read8 s.pc = 0xCB ∧ unassignedExtended (s.read8 (s.pc + 1)) = true

theorem step_of_unassignedAtPc {s : State} (hfault : s.fault = none) (h : UnassignedAtPc s) :
    ∃ t, step s = .next t ∧ t.fault ≠ none := by
  obtain ⟨hstandard, hextended⟩ := unassignedByteRaises s hfault
  obtain hbyte | ⟨hprefix, hbyte⟩ := h
  · exact ⟨_, hstandard hbyte, Option.some_ne_none _⟩
  · exact ⟨_, hextended hprefix hbyte, Option.some_ne_none _⟩

/-- Where no unassigned byte stands, the fetched byte has a row in its table, and the step runs that row's
instruction: one case per kind of row. -/
theorem step_eq_exec_of_not_unassignedAtPc {s : State} (hfault : s.fault = none)
    (h : ¬ UnassignedAtPc s) : ∃ i next, step s = exec i (s.setPc next) := by
  obtain ⟨hstandard, hextended⟩ := not_or.mp h
  by_cases hprefix : s.read8 s.pc = kaoboy.prefixByte
  · cases hrow : lookupExtended (s.read8 (s.pc + 1)) with
    | some i => exact ⟨_, _, step_of_extended hfault hprefix hrow⟩
    | none => exact absurd ⟨hprefix, (lookupExtended_eq_none_iff _).mp hrow⟩ hextended
  · cases hrow : lookupStandard (s.read8 s.pc) with
    | some e =>
      cases e with
      | plain i => exact ⟨_, _, step_of_plain hfault hprefix hrow⟩
      | imm8 k => exact ⟨_, _, step_of_imm8 hfault hprefix hrow⟩
      | imm16 k => exact ⟨_, _, step_of_imm16 hfault hprefix hrow⟩
    | none => exact (((lookupStandard_eq_none_iff _).mp hrow).elim hstandard hprefix).elim

/-- Settles O7: an unassigned byte sets the latch, and any other byte starts an instruction, which
completes and leaves the latch clear. -/
theorem onlyUnassignedBytesFault : Obligations.OnlyUnassignedBytesFault := by
  intro s hfault
  by_cases hbyte : UnassignedAtPc s
  · obtain ⟨t, hstep, hset⟩ := step_of_unassignedAtPc hfault hbyte
    exact ⟨t, hstep, iff_of_true hset hbyte⟩
  · obtain ⟨i, next, hstep⟩ := step_eq_exec_of_not_unassignedAtPc hfault hbyte
    obtain ⟨t, hexec, hkept, -⟩ := everyInstructionCompletes i (s.setPc next)
    have hclear : t.fault = none := hkept.trans hfault
    exact ⟨t, hstep.trans hexec, iff_of_false (not_not_intro hclear) hbyte⟩

end Sys2Proof.Proofs

namespace Sys2Proof.Proofs

open Sys2Proof.Machine Sys2Proof.Claims

/-! ### Each row's instructions are encoded as that row (30_encoding.md R82, R103) -/

/-- The encoder's layout for the instructions of an entry that stands at `op`. -/
def encodeEntry (op v : Byte) (w : Word) : Entry → List Byte
  | .plain _ => encodeOp op
  | .imm8 _ => encodeOpImm8 op v
  | .imm16 _ => encodeOpImm16 op w

theorem encode_of_lookupStandard {op : Byte} {e : Entry} (hrow : lookupStandard op = some e)
    (v : Byte) (w : Word) : encode (fillEntry v w e) = encodeEntry op v w e := by
  have htable : (standardTable.map fun row => encode (fillEntry v w row.2)) =
      standardTable.map fun row => encodeEntry row.1 v w row.2 := rfl
  exact List.map_inj_left.mp htable _ (mem_of_lookup_eq_some hrow)

theorem encode_of_plain {op : Byte} {i : Instr} (hrow : lookupStandard op = some (.plain i)) :
    encode i = encodeOp op :=
  encode_of_lookupStandard hrow 0 0

theorem encode_of_imm8 {op : Byte} {k : Byte → Instr} (hrow : lookupStandard op = some (.imm8 k))
    (v : Byte) : encode (k v) = encodeOpImm8 op v :=
  encode_of_lookupStandard hrow v 0

theorem encode_of_imm16 {op : Byte} {k : Word → Instr} (hrow : lookupStandard op = some (.imm16 k))
    (v : Word) : encode (k v) = encodeOpImm16 op v :=
  encode_of_lookupStandard hrow 0 v

theorem encode_of_lookupExtended {op : Byte} {i : Instr} (hrow : lookupExtended op = some i) :
    encode i = encodeExtended op := by
  have htable : (extendedTable.map fun row => encode row.2) =
      extendedTable.map fun row => encodeExtended row.1 := rfl
  exact List.map_inj_left.mp htable _ (mem_of_lookup_eq_some hrow)

/-- Settles O2: the bytes a row reads are the layout of its format at its opcode, and the row's
instructions are encoded in that layout. -/
theorem encodeOfDecode : Obligations.EncodeOfDecode := by
  intro bytes rest i hdecode
  cases decode_eq_ok_iff_readsRow.mp hdecode with
  | plain _ hrow => rw [encode_of_plain hrow]; rfl
  | imm8 _ hrow => rw [encode_of_imm8 hrow]; rfl
  | imm16 _ hrow => rw [encode_of_imm16 hrow, encodeOpImm16_joinBytes]; rfl
  | extended hprefix hrow => rw [hprefix, encode_of_lookupExtended hrow]; rfl

end Sys2Proof.Proofs

namespace Sys2Proof.Proofs

open Sys2Proof.Machine Sys2Proof.Claims

/-! ### The canonical form is determined by what is read (10_state.md R35) -/

theorem mem_of_lookup_ne_unlisted {k : Nat} {m : Memory} (h : Memory.lookup k m ≠ Memory.unlisted) :
    (k, Memory.lookup k m) ∈ m := by
  induction m with
  | nil => exact absurd rfl h
  | cons c m ih =>
    rw [Memory.lookup] at h ⊢
    split at h
    case isTrue hk => rw [if_pos hk, ← hk]; exact List.mem_cons_self
    case isFalse hk => rw [if_neg hk]; exact List.mem_cons_of_mem c (ih h)

/-- In rising order of the addresses no other cell hides a listed one. -/
theorem lookup_of_mem {m : Memory} {c : Host.Cell} (hm : m.Pairwise fun c d => c.1 < d.1)
    (hc : c ∈ m) : Memory.lookup c.1 m = c.2 := by
  induction m with
  | nil => cases hc
  | cons d m ih =>
    obtain ⟨hfirst, hrest⟩ := List.pairwise_cons.mp hm
    rw [Memory.lookup]
    rcases List.mem_cons.mp hc with rfl | hc
    · exact if_pos rfl
    · rw [if_neg (hfirst c hc).ne, ih hrest hc]

/-- The cells of a canonical memory are the bytes that differ from the reset contents. -/
theorem mem_iff_read {m : Memory} (hm : m.wf) (c : Host.Cell) :
    c ∈ m ↔ c.1 < 65536 ∧ c.2 ≠ Memory.unlisted ∧ m.read (BitVec.ofNat 16 c.1) = c.2 := by
  obtain ⟨hsorted, hcells⟩ := hm
  have hread (hlt : c.1 < 65536) : m.read (BitVec.ofNat 16 c.1) = Memory.lookup c.1 m := by
    rw [Memory.read, BitVec.toNat_ofNat, Nat.mod_eq_of_lt hlt]
  constructor
  · intro hc
    obtain ⟨hlt, hne⟩ := hcells c hc
    exact ⟨hlt, hne, (hread hlt).trans (lookup_of_mem hsorted hc)⟩
  · rintro ⟨hlt, hne, hvalue⟩
    rw [hread hlt] at hvalue
    have hmem := mem_of_lookup_ne_unlisted (hvalue.trans_ne hne)
    rwa [hvalue] at hmem

/-- Settles O19: the two memories have the same cells, and the order of the addresses leaves one list of
them. -/
theorem canonicalMemoryIsUnique : Obligations.CanonicalMemoryIsUnique := by
  intro m m' hm hm' hread
  have hcells (c : Host.Cell) : c ∈ m ↔ c ∈ m' := by
    rw [mem_iff_read hm, mem_iff_read hm', hread]
  have hirrefl : Std.Irrefl fun c d : Host.Cell => c.1 < d.1 := ⟨fun c => Nat.lt_irrefl c.1⟩
  have hantisymm : Std.Antisymm fun c d : Host.Cell => c.1 < d.1 :=
    ⟨fun _ _ h h' => absurd h' h.asymm⟩
  exact hm.1.eq_of_mem_iff hm'.1 hcells

/-! ### Bytes placed in memory (20_memory.md R71) -/

/-- Fewer bytes than memory has do not come round to the first one, so each stands where it was put. -/
theorem read_place (bytes : List Byte) (m : Memory) (a x : Word) (hlen : bytes.length ≤ 65536) :
    (m.place a bytes).read x = (bytes[(x - a).toNat]?).getD (m.read x) := by
  induction bytes generalizing m a with
  | nil => rfl
  | cons b rest ih =>
    rw [List.length_cons] at hlen
    rw [Memory.place, ih _ _ (Nat.le_of_succ_le hlen), Memory.read_write]
    by_cases hx : x = a
    · have hpast : rest.length ≤ (x - (a + 1)).toNat := by bv_omega
      rw [List.getElem?_eq_none hpast, if_pos hx, hx, BitVec.sub_self]
      rfl
    · have hnext : (x - a).toNat = (x - (a + 1)).toNat + 1 := by bv_omega
      rw [if_neg hx, hnext, List.getElem?_cons_succ]

/-! ### An opcode-table word is what the next step fetches (logs 9 and 10) -/

theorem tableBytes_length (nbits w : Nat) : (tableBytes nbits w).length = 3 := by
  rw [tableBytes]
  split <;> rfl

theorem read8_withFetchWord (s : State) (nbits w : Nat) (x : Word) :
    (s.withFetchWord nbits w).read8 x = ((tableBytes nbits w)[(x - s.pc).toNat]?).getD (s.read8 x) :=
  read_place _ s.mem s.pc x (by rw [tableBytes_length]; decide)

theorem window_withFetchWord (s : State) (nbits w : Nat) :
    (s.withFetchWord nbits w).window = tableBytes nbits w := by
  obtain ⟨b0, b1, b2, hbytes⟩ := List.length_eq_three.mp (tableBytes_length nbits w)
  have hpc : (s.withFetchWord nbits w).pc = s.pc := rfl
  have h0 : (s.pc - s.pc).toNat = 0 := by bv_omega
  have h1 : (s.pc + 1 - s.pc).toNat = 1 := by bv_omega
  have h2 : (s.pc + 2 - s.pc).toNat = 2 := by bv_omega
  simp only [State.window, hpc, read8_withFetchWord, hbytes, h0, h1, h2]
  rfl

theorem decodeTableWord_eq_some {nbits w : Nat} {i : Instr} (h : decodeTableWord nbits w = some i) :
    ∃ rest, decode (tableBytes nbits w) = .ok (i, rest) := by
  rw [decodeTableWord] at h
  split at h
  case h_1 j rest hdecode => cases h; exact ⟨rest, hdecode⟩
  case h_2 => cases h

/-- Settles O10: the bytes at `pc` are the word's, and the placing clears the latch, so the step runs the
instruction the decoder reads from them. -/
theorem placedWordRuns : Obligations.PlacedWordRuns := by
  intro s nbits w i hword
  obtain ⟨rest, hdecode⟩ := decodeTableWord_eq_some hword
  rw [← window_withFetchWord s] at hdecode
  exact stepRunsDecodedInstruction (s.withFetchWord nbits w) i rest rfl hdecode trivial

end Sys2Proof.Proofs

namespace Sys2Proof.Proofs

open Sys2Proof.Machine Sys2Proof.Claims

/-! ### Reset (70_reset_and_hazards.md R290) -/

/-- Settles O15: memory lists no byte, and each other field is the parameter's value. -/
theorem resetLeaves : Obligations.ResetLeaves := fun _ =>
  ⟨fun _ => rfl, rfl, rfl, rfl, rfl, rfl, rfl, rfl, rfl, rfl, rfl, rfl, rfl, rfl, rfl⟩

/-- Settles O16: the transaction looks at nothing in the block. -/
theorem resetTransactionResets : Obligations.ResetTransactionResets := fun _ => ⟨rfl, rfl, rfl⟩

/-! ### Bootstrap (70_reset_and_hazards.md R293) -/

section
variable {k : Block} {image : List Byte}

theorem transact_bootstrap_of_stepped (hstepped : k.stepped = true) :
    transact (.bootstrap image) k = .refused .bootstrapAfterStep := by
  simp only [transact, if_pos hstepped]

theorem imageWellFormed_iff : imageWellFormed image = true ↔ ¬ 65536 < image.length :=
  decide_eq_true_iff.trans Nat.not_lt.symm

theorem transact_bootstrap_of_tooLong (hstepped : ¬ k.stepped = true) (hlen : 65536 < image.length) :
    transact (.bootstrap image) k = .refused .imageTooLong := by
  have himage : ¬ imageWellFormed image = true := imageWellFormed_iff.not.mpr (not_not_intro hlen)
  simp only [transact, if_neg hstepped, if_neg himage]

theorem transact_bootstrap_of_fits (hstepped : ¬ k.stepped = true) (hlen : ¬ 65536 < image.length) :
    transact (.bootstrap image) k = .next ({ k with core := bootstrap image k.core }, []) := by
  simp only [transact, if_neg hstepped, if_pos (imageWellFormed_iff.mpr hlen)]

theorem read8_bootstrap (s : State) (hlen : ¬ 65536 < image.length) (x : Word) :
    (bootstrap image s).read8 x = (image[x.toNat]?).getD (s.read8 x) := by
  have hzero : x - 0 = x := BitVec.sub_zero x
  have hread := read_place image s.mem 0 x (Nat.not_lt.mp hlen)
  rwa [hzero] at hread

end

/-- Settles O17: the three branches of the transaction, and an image that fits reaches no address twice. -/
theorem bootstrapCopiesImage : Obligations.BootstrapCopiesImage := by
  intro image k
  split
  case isTrue hstepped => exact transact_bootstrap_of_stepped hstepped
  case isFalse hstepped =>
    split
    case isTrue hlen => exact transact_bootstrap_of_tooLong hstepped hlen
    case isFalse hlen =>
      exact ⟨_, transact_bootstrap_of_fits hstepped hlen, Bool.eq_false_of_not_eq_true hstepped,
        read8_bootstrap k.core hlen, rfl⟩

/-! ### The Step transaction (30_encoding.md R81, 70_reset_and_hazards.md R291) -/

section
variable {k k' : Block} {events : List RenderEvent}

theorem transact_step_of_next {t : State} (h : step k.core = .next t) :
    transact .step k = .next ({ core := t, stepped := true }, []) := by
  simp only [transact, h]

theorem transact_step_of_fault {r : Fault} (h : step k.core = .fault r) :
    transact .step k = .fault r := by
  simp only [transact, h]

theorem transact_step_of_refused {r : Refusal} (h : step k.core = .refused r) :
    transact .step k = .refused r := by
  simp only [transact, h]

theorem transact_step_eq_next_iff : transact .step k = .next (k', events) ↔
    step k.core = .next k'.core ∧ k'.stepped = true ∧ events = [] := by
  constructor
  · intro h
    obtain ⟨t, stepped⟩ := k'
    have hstep := step_of_transact_step h
    cases (transact_step_of_next hstep).symm.trans h
    exact ⟨hstep, rfl, rfl⟩
  · rintro ⟨hstep, hstepped, rfl⟩
    rw [transact_step_of_next hstep, ← hstepped]

theorem transact_step_eq_fault_iff (r : Fault) :
    transact .step k = .fault r ↔ step k.core = .fault r := by
  refine ⟨fun h => ?_, transact_step_of_fault⟩
  cases hstep : step k.core with
  | next t => cases (transact_step_of_next hstep).symm.trans h
  | fault q =>
    cases (transact_step_of_fault hstep).symm.trans h
    rfl
  | refused q => cases (transact_step_of_refused hstep).symm.trans h

theorem transact_step_eq_refused_iff (r : Refusal) :
    transact .step k = .refused r ↔ step k.core = .refused r := by
  refine ⟨fun h => ?_, transact_step_of_refused⟩
  cases hstep : step k.core with
  | next t => cases (transact_step_of_next hstep).symm.trans h
  | fault q => cases (transact_step_of_fault hstep).symm.trans h
  | refused q =>
    cases (transact_step_of_refused hstep).symm.trans h
    rfl

theorem stepped_of_transact_bootstrap {image : List Byte}
    (h : transact (.bootstrap image) k = .next (k', events)) : k'.stepped = k.stepped := by
  by_cases hstepped : k.stepped = true
  · cases (transact_bootstrap_of_stepped hstepped).symm.trans h
  · by_cases hlen : 65536 < image.length
    · cases (transact_bootstrap_of_tooLong hstepped hlen).symm.trans h
    · cases (transact_bootstrap_of_fits hstepped hlen).symm.trans h
      rfl

/-- Only Reset and Step write the record of Steps (70_reset_and_hazards.md R291). -/
theorem stepped_of_transact {x : Transaction} (hreset : x ≠ .reset) (hstep : x ≠ .step)
    (h : transact x k = .next (k', events)) : k'.stepped = k.stepped := by
  cases x with
  | reset => exact absurd rfl hreset
  | bootstrap image => exact stepped_of_transact_bootstrap h
  | step => exact absurd rfl hstep
  | tick n | write w => cases h; rfl

end

/-- Settles O59: the transaction is `step` with the record set, and a set record shuts Bootstrap out. -/
theorem stepIsRecorded : Obligations.StepIsRecorded := by
  refine fun k => ⟨fun _ _ => transact_step_eq_next_iff, transact_step_eq_fault_iff,
    transact_step_eq_refused_iff, fun _ _ _ => stepped_of_transact, fun image k' events h => ?_⟩
  obtain ⟨-, hstepped, -⟩ := transact_step_eq_next_iff.mp h
  exact transact_bootstrap_of_stepped hstepped

/-! ### Ticks and host writes (50_video_timing.md R246, 70_reset_and_hazards.md R296) -/

/-- Settles O60: each host write is one update of the state, whose frame is that update's. -/
theorem tickAndHostWriteEffects : Obligations.TickAndHostWriteEffects := by
  intro k
  have hreg (r : ByteReg) (v : Byte) : (k.core.setReg r v).reg r = v := by
    rw [State.reg_setReg, if_pos rfl]
  have hbyte (a : Word) (v : Byte) : (k.core.write8 a v).read8 a = v := by
    rw [State.read8_write8, if_pos rfl]
  exact ⟨fun _ => rfl, fun r v => ⟨_, rfl, hreg r v, setReg_onlyRegs k.core r v⟩,
    fun v => ⟨_, rfl, rfl, setSp_onlySp k.core v⟩, fun _ => rfl,
    fun a v => ⟨_, rfl, hbyte a v, write8_onlyByte k.core a v⟩⟩

/-! ### A set latch ends the run (60_exceptions.md R261) -/

theorem hostWrite_fault (w : HostWrite) (s : State) : (hostWrite w s).fault = s.fault := by
  cases w with
  | reg r v => exact State.setReg_fault s r v
  | sp v | pc v | mem a v => rfl

/-- Settles O8: a faulted block has no step, and Bootstrap, Tick and the host writes leave the latch
alone. -/
theorem faultIsTerminal : Obligations.FaultIsTerminal := by
  refine ⟨step_faulted, fun x k k' events info hreset hx hfault => ?kept⟩
  cases x with
  | reset => exact absurd rfl hreset
  | bootstrap image => rw [core_of_transact_bootstrap hx]; exact hfault
  | step => cases (step_faulted _ _ hfault).symm.trans (step_of_transact_step hx)
  | tick n => cases hx; exact hfault
  | write w => cases hx; exact (hostWrite_fault w k.core).trans hfault

end Sys2Proof.Proofs
